-- ==== Sys2Proof/Word.lean ====
section
/-! DEFINITION. The widths of the engine's cells, registers and event words (spec/10_state.md, spec/30_encoding.md R101). -/

namespace Sys2Proof

/-- An 8-bit cell, sample or table entry (`VALUE_W` = 8, R4). -/
abbrev Byte := BitVec 8

/-- A 16-bit phase or frequency (`PHASE_W` = `FREQ_W` = 16, R5). -/
abbrev Word16 := BitVec 16

/-- A 7-bit note index, velocity or note-rate (R25, R28, R151). -/
abbrev Note := BitVec 7

/-- A signed 17-bit register, two's complement (R39, R41, R7). -/
abbrev S17 := BitVec 17

/-- A 9-bit last-written register of a pot; 0x100 is "nothing written yet" (R42). -/
abbrev Last9 := BitVec 9

/-- A slot number 0..31 of the ParameterStore (R70, R71). -/
abbrev Slot := Fin 32

/-- One event word, 24 bits, delivered whole (R101). -/
abbrev EventWord := BitVec 24

end Sys2Proof
end

