-- ==== Sys2Proof/Machine/Arith.lean ====
section
/-! DEFINITION. The arithmetic primitives of spec/00_scope.md R8 on unbounded integers, and the stores of their results into
registers. -/

namespace Sys2Proof.Machine

/-- R8: `v >> k` = floor(`v` / 2^k) for every integer (D15). -/
def floorShift (v : Int) (k : Nat) : Int := v / (2 ^ k : Int)

/-- R8: `v << k` = `v` × 2^k. -/
def shiftLeft (v : Int) (k : Nat) : Int := v * (2 ^ k : Int)

/-- R8: `clamp(v, lo, hi)`. -/
def clamp (v lo hi : Int) : Int := if v < lo then lo else if hi < v then hi else v

/-- R8: `sat8(v)`. -/
def sat8 (v : Int) : Byte := BitVec.ofInt 8 (clamp v 0 255)

/-- R8: `tdiv(a, b)` for `b > 0`: division truncating toward zero. -/
def tdiv (a : Int) (b : Nat) : Int := a.sign * ((a.natAbs / b : Nat) : Int)

/-- An 8-bit register takes an integer the rules keep in 0..255 (`trunc_8` where they say so). -/
def byteOf (v : Int) : Byte := BitVec.ofInt 8 v

/-- A 16-bit register takes an integer (`trunc_16` of R8). -/
def word16Of (v : Int) : Word16 := BitVec.ofInt 16 v

/-- A signed 17-bit register takes an integer (R39, R41; assumption log 11). -/
def s17Of (v : Int) : S17 := BitVec.ofInt 17 v

/-- `clamp(v, 0, 127)` on a note index (R191, R197). -/
def clampNote (v : Int) : Note := BitVec.ofInt 7 (clamp v 0 127)

end Sys2Proof.Machine
end

