-- ==== Sys2Proof/Config.lean ====
section
/-! DEFINITION. The parameters of spec/00_scope.md: the constants of R4 and R5, the OPEN tables of R6 as one opaque constant, and
the default contents the spec offers for some of them. The OPEN contents are free: nothing can be proved of an entry beyond the
constraints R6 states (assumption log 1, 2). -/

namespace Sys2Proof.Config

/-- `ENV_FLOOR` (R4): the analog floor of the amplitude envelope. -/
def envFloor : Nat := 47

/-- `ENV_STEPS` (R4). -/
def envSteps : Nat := 255

/-- `FLT_STEPS` (R4): steps of one filter-envelope stage. -/
def fltSteps : Nat := 128

/-- `LFSR_SEED` (R4). -/
def lfsrSeed : Word16 := 0xACE1

/-- `SILENCE` (R5). -/
def silence : Byte := 128

/-- `PULSE_WIDTH` (R5). -/
def pulseWidth : Word16 := 0x8000

/-- `LFO_NOTE_RATE` (R5). -/
def lfoNoteRate : Note := 0

/-- The step sizes an `ENV_RATE` entry may hold: "step is 1, 2 or 4" (R6, R213). -/
inductive EnvStep where
  | one
  | two
  | four
deriving DecidableEq, Repr, Inhabited

/-- The units of a step size. -/
def EnvStep.units : EnvStep → Nat
  | .one => 1
  | .two => 2
  | .four => 4

/-- Raw contents of the OPEN parameters of R6. The constrained tables (`NOTE_FREQ`, `ANTILOG_BREAK`, `LFO_DEST_TABLE`) are read
through Machine/Tables.lean, which turns any raw contents into an admissible table, and every admissible table is so obtained
(assumption log 2). -/
structure Tables where
  /-- `SINE`. -/
  sine : Byte → Byte
  /-- `RAMP_BANK[band][idx]`. -/
  rampBank : BitVec 5 → Byte → Byte
  /-- `TRI_BANK[band][idx]`. -/
  triBank : BitVec 5 → Byte → Byte
  /-- `RAWSQ`. -/
  rawSq : Byte → Byte
  /-- `SYNCSQ`. -/
  syncSq : Byte → Byte
  /-- `MORPH_FN[k](phase, note-rate, morph index)`. -/
  morphFn : Fin 9 → Word16 → Note → Byte → Byte
  /-- Raw `NOTE_FREQ`. -/
  noteFreqRaw : Note → Word16
  /-- `LFO_RATE_TABLE`. -/
  lfoRate : BitVec 5 → Word16
  /-- Raw `LFO_DEST_TABLE`. -/
  lfoDestRaw : BitVec 3 → Slot
  /-- An index of `LFO_DEST_TABLE` that holds `AMPLITUDE`. -/
  lfoDestAmpAt : BitVec 3
  /-- How far after it (less one) an index that holds `PITCH_SHIFT` stands, modulo 8. -/
  lfoDestPitchAfter : Fin 7
  /-- `ENV_RATE(knob)` = (reload, step). -/
  envRate : Byte → Byte × EnvStep
  /-- `FLT_RATE(knob)` = reload. -/
  fltRate : Byte → Byte
  /-- Raw `ANTILOG_BREAK`. -/
  antilogRaw : Fin 9 → Byte
  /-- `RESET_PARAM`. -/
  resetParam : Slot → Byte
  /-- `SLOW_DIV` less one, so that it is positive; no rule reads it (R341). -/
  slowDivLessOne : Nat
deriving Inhabited

/-- The OPEN contents of the device: no body, so that no proof can rest on an entry (R6; U7: parameter). -/
opaque tables : Tables

/-! Default contents the spec offers (R60, R156, R241, R263): instances, not facts about the device (assumption log 19). -/

/-- Default `RAWSQ` (R156). -/
def defaultRawSq (i : Byte) : Byte := if i.toNat < 128 then 0 else 255

/-- Default `ANTILOG_BREAK` (R241). -/
def defaultAntilogBreak (j : Fin 9) : Byte :=
  #v[0#8, 4#8, 9#8, 17#8, 31#8, 55#8, 95#8, 160#8, 255#8][j.val]

/-- Default `LFO_DEST_TABLE` (R263): AMPLITUDE, FILTER_CUTOFF, FILTER_Q, PITCH_SHIFT, OSC_MIX, OSC_DETUNE, FILTER_ENV_AMOUNT,
MORPH_RATE. -/
def defaultLfoDest (i : BitVec 3) : Slot :=
  (#v[10, 15, 16, 7, 5, 6, 17, 9] : Vector Slot 8)[i.toNat]'(by omega)

/-- Default `RESET_PARAM` (R60): 0 but for PITCH_SHIFT = OSC_DETUNE = 128 and AMPLITUDE = 255. -/
def defaultResetParam (p : Slot) : Byte :=
  if p.val = 7 ∨ p.val = 6 then 128 else if p.val = 10 then 255 else 0

end Sys2Proof.Config
end

