-- ==== Sys2Proof/Machine/Slots.lean ====
section
/-! DEFINITION. The slot numbers of spec/10_state.md R30. -/

namespace Sys2Proof.Machine.SlotNo

abbrev lfoAmount : Slot := 0
abbrev arpMode : Slot := 1
abbrev arpRate : Slot := 2
abbrev osc1Waveshape : Slot := 3
abbrev osc2Waveshape : Slot := 4
abbrev oscMix : Slot := 5
abbrev oscDetune : Slot := 6
abbrev pitchShift : Slot := 7
abbrev portamento : Slot := 8
abbrev morphRate : Slot := 9
abbrev amplitude : Slot := 10
abbrev ampAttack : Slot := 11
abbrev ampDecay : Slot := 12
abbrev ampSustain : Slot := 13
abbrev ampRelease : Slot := 14
abbrev filterCutoff : Slot := 15
abbrev filterQ : Slot := 16
abbrev filterEnvAmount : Slot := 17
abbrev filterAttack : Slot := 18
abbrev filterDecay : Slot := 19
abbrev filterSustain : Slot := 20
abbrev filterRelease : Slot := 21
abbrev lfoRate : Slot := 22
abbrev lfoDest : Slot := 23
abbrev lfoWaveshape : Slot := 24
abbrev lfoSync : Slot := 25
abbrev lfoMorphRate : Slot := 26
abbrev arpPattern : Slot := 27
abbrev arpGate : Slot := 28
abbrev rsv29 : Slot := 29
abbrev rsv30 : Slot := 30
abbrev rsv31 : Slot := 31

end Sys2Proof.Machine.SlotNo
end

