-- ==== Sys2Proof/Machine/Tables.lean ====
section
/-! DEFINITION. Reads of the three OPEN tables that spec/00_scope.md R6 constrains. The constraint holds of every raw content by
construction, and an admissible content is read back unchanged (assumption log 2). -/

namespace Sys2Proof.Machine

open Sys2Proof.Config (Tables)

/-- The largest of `f 0`, …, `f n`. -/
def runningMax (f : Nat → Nat) : Nat → Nat
  | 0 => f 0
  | n + 1 => max (runningMax f n) (f (n + 1))

/-- `NOTE_FREQ[n]`: "monotonically non-decreasing in the index" (R6, R194). -/
def noteFreq (c : Tables) (n : Note) : Word16 :=
  BitVec.ofNat 16 (runningMax (fun i => (c.noteFreqRaw (BitVec.ofNat 7 i)).toNat) n.toNat)

/-- `ANTILOG_BREAK[j]`: "non-decreasing" (R6, R241). -/
def antilogBreak (c : Tables) (j : Fin 9) : Byte :=
  BitVec.ofNat 8 (runningMax (fun i => (c.antilogRaw (Fin.ofNat 9 i)).toNat) j.val)

/-- `LFO_DEST_TABLE[i]`: "at least one entry is `AMPLITUDE` and one is `PITCH_SHIFT`" (R6, R263). -/
def lfoDestEntry (c : Tables) (i : BitVec 3) : Slot :=
  if i = c.lfoDestAmpAt then SlotNo.amplitude
  else if i = c.lfoDestAmpAt + 1 + BitVec.ofNat 3 c.lfoDestPitchAfter.val then SlotNo.pitchShift
  else c.lfoDestRaw i

end Sys2Proof.Machine
end

