-- ==== Sys2Proof/Syntax.lean ====
section
/-! DEFINITION. The operations of spec/opcode_table.json, one constructor per row: 11 event operations (R100), 16 waveform ids
(R106), 4 job codes (R108). -/

namespace Sys2Proof

/-- The three users of a waveform function and owners of a generator record (R37): `gen[0]`, `gen[1]`, `gen[2]`. -/
inductive Gen where
  /-- Oscillator 0 (OSC1). -/
  | osc1
  /-- Oscillator 1 (OSC2). -/
  | osc2
  /-- The LFO. -/
  | lfo
deriving DecidableEq, Repr

/-- One operation. Operands of event words are the fields `a` and `b` of R101 after the decoder's clamp (R102). A waveform
operation names the generator it is evaluated for: the other operands of `Wave` (R150) are that owner's (R131, R172). -/
inductive Instr where
  /-- `NOP` (R281). -/
  | nop
  /-- `AUDIO_TICK` (R131). -/
  | audioTick
  /-- `SLOW_TICK` (R132). -/
  | slowTick
  /-- `MAIN_STEP` (R133). -/
  | mainStep
  /-- `NOTE_ON note, velocity` (R282). -/
  | noteOn (note velocity : Byte)
  /-- `NOTE_OFF note` (R283). -/
  | noteOff (note : Byte)
  /-- `CONTROL_CHANGE controller, value` (R284). -/
  | controlChange (controller value : Byte)
  /-- `PITCH_BEND value` (R285). -/
  | pitchBend (value : Byte)
  /-- `KNOB slot, value` (R286). -/
  | knob (slot value : Byte)
  /-- `RESET` (R287). -/
  | reset
  /-- `BUS_READY level` (R288). -/
  | busReady (level : Bool)
  /-- `W_SINE` (R152). -/
  | wSine (g : Gen)
  /-- `W_RAMP` (R153). -/
  | wRamp (g : Gen)
  /-- `W_TRIANGLE` (R154). -/
  | wTriangle (g : Gen)
  /-- `W_SQUARE` (R155). -/
  | wSquare (g : Gen)
  /-- `W_RAW_SQUARE` (R156). -/
  | wRawSquare (g : Gen)
  /-- `W_SYNC_SQUARE` (R157). -/
  | wSyncSquare (g : Gen)
  /-- `W_NOISE` (R158). -/
  | wNoise (g : Gen)
  /-- `W_MORPH_0` (R161). -/
  | wMorph0 (g : Gen)
  /-- `W_MORPH_1` (R162). -/
  | wMorph1 (g : Gen)
  /-- `W_MORPH_2` (R163). -/
  | wMorph2 (g : Gen)
  /-- `W_MORPH_3` (R164). -/
  | wMorph3 (g : Gen)
  /-- `W_MORPH_4` (R165). -/
  | wMorph4 (g : Gen)
  /-- `W_MORPH_5` (R166). -/
  | wMorph5 (g : Gen)
  /-- `W_MORPH_6` (R167). -/
  | wMorph6 (g : Gen)
  /-- `W_MORPH_7` (R168). -/
  | wMorph7 (g : Gen)
  /-- `W_MORPH_8` (R169). -/
  | wMorph8 (g : Gen)
  /-- `JOB_FILTER` (R230). -/
  | jobFilter
  /-- `JOB_KNOB` (R135). -/
  | jobKnob
  /-- `JOB_PITCH` (R190). -/
  | jobPitch
  /-- `JOB_LFO` (R260). -/
  | jobLfo
deriving DecidableEq, Repr

/-- The waveform a 4-bit id selects, as the tagged union R150 asks for: "enum Waveform" with a morph kind. -/
inductive WaveId where
  | sine
  | ramp
  | triangle
  | square
  | rawSquare
  | syncSquare
  | noise
  | morph (k : Fin 9)
deriving DecidableEq, Repr

/-- The four round-robin jobs, the values of `rr_state` (R36, R108). -/
inductive Job where
  /-- Filter envelope and bus sequencer, code 0. -/
  | filter
  /-- Knob read, code 1. -/
  | knob
  /-- Pitch and glide, code 2. -/
  | pitch
  /-- LFO, code 3. -/
  | lfo
deriving DecidableEq, Repr

end Sys2Proof
end

