-- ==== Sys2Proof/Machine/State.lean ====
section
/-! DEFINITION. The engine's state: every element of spec/10_state.md R20, by component, and the model's own three fields
(`samples`, `emitted`, `inbox`; assumption log 3, 4, 5). Reset values: R60. -/

namespace Sys2Proof.Machine

open Sys2Proof.Config (Tables)

/-- Which of the source values governs a slot (R24). Code 3 cannot be held (R112; U2; assumption log 12). -/
inductive Source where
  /-- Code 0. -/
  | knob
  /-- Code 1; no operation in scope writes it (R24). -/
  | loop
  /-- Code 2. -/
  | external
deriving DecidableEq, Repr

/-- Envelope stages, codes 0..3 (R109). -/
inductive Stage where
  | attack
  | decay
  | sustain
  | release
deriving DecidableEq, Repr

/-- Bus-sequencer states, codes 0..3 (R110). -/
inductive BusState where
  | f1
  | f2
  | res
  | wait
deriving DecidableEq, Repr

/-- Pots a bus write selects, codes 0..2 (R47, R110; code 3 is never emitted, U4). -/
inductive Pot where
  /-- Frequency pot 1. -/
  | freq1
  /-- Frequency pot 2. -/
  | freq2
  /-- Resonance pot. -/
  | resonance
deriving DecidableEq, Repr

/-- One filter-bus write request, `BusWrite(pot, v)` (R47). -/
structure BusWrite where
  pot : Pot
  value : Byte
deriving DecidableEq, Repr

/-- The ParameterStore: four cells per slot (R21 to R24). -/
structure Store where
  value : Vector Byte 32
  rawReading : Vector Byte 32
  override : Vector Byte 32
  source : Vector Source 32
deriving DecidableEq, Repr

/-- The per-oscillator fields (R25 to R27) and glide registers (R39). -/
structure OscRegs where
  noteIndex : Note
  noteFrequency : Word16
  phase : Word16
  targetNote : Note
  targetFreq : Word16
  inc : S17
  count : Word16
  total : Word16
  lastNote : Note
deriving DecidableEq, Repr

/-- A generator record (R37). -/
structure GenRec where
  morphIndex : Byte
  morphTimer : Byte
  lfsr : Word16
deriving DecidableEq, Repr

/-- The four sync flags (R34). -/
structure SyncFlags where
  lfo : Bool
  amplitude : Bool
  filter : Bool
  oscillator : Bool
deriving DecidableEq, Repr

/-- Amplitude-envelope registers (R40); the level is `adsrMultiplier` (R29). -/
structure AmpRegs where
  phase : Stage
  timer : Byte
  ceiling : Byte
  sustain : Byte
deriving DecidableEq, Repr

/-- Filter-envelope registers (R41). -/
structure FltRegs where
  phase : Stage
  active : Bool
  timer : Byte
  step : BitVec 7
  adder : S17
  slope : S17
  target : S17
  peak : S17
  cutoff : Byte
deriving DecidableEq, Repr

/-- Bus-sequencer registers (R42). -/
structure BusRegs where
  state : BusState
  latch : Byte
  lastF1 : Last9
  lastF2 : Last9
  lastQ : Last9
  ready : Bool
deriving DecidableEq, Repr

/-- LFO registers (R43). -/
structure LfoRegs where
  phase : Word16
  lastDest : Slot
deriving DecidableEq, Repr

/-- The values `Wave` last returned, by generator: the locals `s0`, `s1` of R131 and `smp` of R260 (the model's own; assumption
log 5). -/
structure Samples where
  osc1 : Byte
  osc2 : Byte
  lfo : Byte
deriving DecidableEq, Repr

/-- The state of the engine (R20). -/
structure State where
  /-- The ParameterStore (R21 to R24). -/
  store : Store
  /-- Oscillator 0 (R25 to R27, R39). -/
  osc1 : OscRegs
  /-- Oscillator 1. -/
  osc2 : OscRegs
  /-- `g_last_ps` (R39). -/
  lastPs : Note
  /-- `velocity` (R28). -/
  velocity : Note
  /-- `adsr_multiplier` (R29). -/
  adsrMultiplier : Byte
  /-- `note_on` (R32). -/
  noteOn : Bool
  /-- `key_down` (R33). -/
  keyDown : Bool
  /-- The sync flags (R34). -/
  sync : SyncFlags
  /-- `slow_pending` (R35). -/
  slowPending : Bool
  /-- `overrun` (R35). -/
  overrun : Bool
  /-- `rr_state` (R36, R108). -/
  rrState : Job
  /-- `gen[0]` (R37). -/
  gen1 : GenRec
  /-- `gen[1]`. -/
  gen2 : GenRec
  /-- `gen[2]`. -/
  genLfo : GenRec
  /-- `lp_out` (R38). -/
  lpOut : Byte
  /-- `audio_out` (R38). -/
  audioOut : Byte
  /-- Amplitude envelope (R40). -/
  amp : AmpRegs
  /-- Filter envelope (R41). -/
  flt : FltRegs
  /-- Bus sequencer (R42). -/
  bus : BusRegs
  /-- LFO (R43). -/
  lfo : LfoRegs
  /-- `vca_out` (R44). -/
  vcaOut : Byte
  /-- The model's own: sample latches (assumption log 5). -/
  samples : Samples
  /-- The model's own: the requests the operation in hand has emitted, oldest first (R47; assumption log 4). -/
  emitted : List BusWrite
  /-- The model's own: the event words the outside will deliver, next first (R48; assumption log 3). -/
  inbox : List EventWord
deriving DecidableEq, Repr

/-- Faults: none. "The engine raises no synchronous exception … and has no fault state" (R300; assumption log 10). -/
inductive Fault
deriving DecidableEq, Repr

/-- Refusals. -/
inductive Refusal where
  /-- An arm of `exec` that has no meaning yet answers this; no arm does so in this model. Safe: the model stops. -/
  | notModelled (mnemonic : String)
deriving DecidableEq, Repr

/-- The 32 cells of an array, by slot. -/
def slotCells {α : Type} (f : Slot → α) : Vector α 32 :=
  #v[f 0, f 1, f 2, f 3, f 4, f 5, f 6, f 7, f 8, f 9, f 10, f 11, f 12, f 13, f 14, f 15,
     f 16, f 17, f 18, f 19, f 20, f 21, f 22, f 23, f 24, f 25, f 26, f 27, f 28, f 29, f 30, f 31]

/-- An oscillator after reset (R60). -/
def OscRegs.reset : OscRegs where
  noteIndex := 0
  noteFrequency := 0
  phase := 0
  targetNote := 0
  targetFreq := 0
  inc := 0
  count := 0
  total := 0
  lastNote := 0

/-- A generator record after reset (R60). -/
def GenRec.reset : GenRec where
  morphIndex := 0
  morphTimer := 0
  lfsr := Config.lfsrSeed

/-- The reset state of R60 under a configuration. -/
def State.resetWith (c : Tables) : State where
  store := {
    value := slotCells c.resetParam
    rawReading := slotCells c.resetParam
    override := slotCells c.resetParam
    source := slotCells fun _ => .knob }
  osc1 := .reset
  osc2 := .reset
  lastPs := 64
  velocity := 0
  adsrMultiplier := 47
  noteOn := false
  keyDown := false
  sync := { lfo := false, amplitude := false, filter := false, oscillator := false }
  slowPending := false
  overrun := false
  rrState := .filter
  gen1 := .reset
  gen2 := .reset
  genLfo := .reset
  lpOut := Config.silence
  audioOut := Config.silence
  amp := { phase := .attack, timer := 0, ceiling := 47, sustain := 47 }
  flt := {
    phase := .attack
    active := false
    timer := 0
    step := 0
    adder := 0
    slope := 0
    target := 0
    peak := 0
    cutoff := 0 }
  bus := { state := .f1, latch := 0, lastF1 := 0x100, lastF2 := 0x100, lastQ := 0x100, ready := true }
  lfo := {
    phase := 0
    lastDest := lfoDestEntry c ((c.resetParam SlotNo.lfoDest).extractLsb' 5 3) }
  vcaOut := 47
  samples := { osc1 := 0, osc2 := 0, lfo := 0 }
  emitted := []
  inbox := []

/-- The machine right after reset (R60, R320), under the device's own OPEN tables. -/
def State.reset : State := State.resetWith Config.tables

end Sys2Proof.Machine
end

