-- ==== Sys2Proof/Machine/Ops.lean ====
section
/-! DEFINITION. The named operations over the ParameterStore and the register groups. There is no exception to take and none to
return from: "The list of exception causes is empty" (spec/60_exceptions.md R300, R305; assumption log 10). -/

namespace Sys2Proof.Machine

/-- `value[P]` (R21). -/
def State.value (s : State) (p : Slot) : Byte := s.store.value[p]

/-- `raw_reading[P]` (R22). -/
def State.rawReading (s : State) (p : Slot) : Byte := s.store.rawReading[p]

/-- `override[P]` (R23). -/
def State.override (s : State) (p : Slot) : Byte := s.store.override[p]

/-- `source[P]` (R24). -/
def State.source (s : State) (p : Slot) : Source := s.store.source[p]

/-- `value[P] <- v`. -/
def State.setValue (s : State) (p : Slot) (v : Byte) : State :=
  { s with store.value := s.store.value.set p v }

/-- `raw_reading[P] <- v`. -/
def State.setRawReading (s : State) (p : Slot) (v : Byte) : State :=
  { s with store.rawReading := s.store.rawReading.set p v }

/-- `override[P] <- v`. -/
def State.setOverride (s : State) (p : Slot) (v : Byte) : State :=
  { s with store.override := s.store.override.set p v }

/-- `source[P] <- t`. -/
def State.setSource (s : State) (p : Slot) (t : Source) : State :=
  { s with store.source := s.store.source.set p t }

/-- `gen[g]` (R37). -/
def State.gen (s : State) : Gen → GenRec
  | .osc1 => s.gen1
  | .osc2 => s.gen2
  | .lfo => s.genLfo

/-- `gen[g] <- r`. -/
def State.setGen (s : State) (g : Gen) (r : GenRec) : State :=
  match g with
  | .osc1 => { s with gen1 := r }
  | .osc2 => { s with gen2 := r }
  | .lfo => { s with genLfo := r }

/-- The sample last returned to an owner. -/
def State.sample (s : State) : Gen → Byte
  | .osc1 => s.samples.osc1
  | .osc2 => s.samples.osc2
  | .lfo => s.samples.lfo

/-- An owner takes the sample `Wave` returns. -/
def State.setSample (s : State) (g : Gen) (v : Byte) : State :=
  match g with
  | .osc1 => { s with samples.osc1 := v }
  | .osc2 => { s with samples.osc2 := v }
  | .lfo => { s with samples.lfo := v }

/-- `emit BusWrite(pot, v)` (R9, R47). -/
def State.emit (s : State) (pot : Pot) (v : Byte) : State :=
  { s with emitted := s.emitted ++ [⟨pot, v⟩] }

/-- `trunc_2(rr_state + 1)`: the job after a job (R134). -/
def nextJob : Job → Job
  | .filter => .knob
  | .knob => .pitch
  | .pitch => .lfo
  | .lfo => .filter

/-- `trunc_2(bus_state + 1)` (R242). -/
def nextBusState : BusState → BusState
  | .f1 => .f2
  | .f2 => .res
  | .res => .wait
  | .wait => .f1

end Sys2Proof.Machine
end

