-- ==== Sys2Proof/Machine/Flags.lean ====
section
/-! DEFINITION. The flags of spec/10_state.md R32 to R35: which operation sets and which takes each. -/

namespace Sys2Proof.Machine

/-- NOTE_ON sets the four sync flags (R34, R282). -/
def setSyncFlags (s : State) : State :=
  { s with sync := { lfo := true, amplitude := true, filter := true, oscillator := true } }

/-- The take of `amplitude_sync` (R82, R211): the flag is 0 afterwards. -/
def clearAmplitudeSync (s : State) : State := { s with sync.amplitude := false }

/-- The take of `filter_sync` (R82, R232). -/
def clearFilterSync (s : State) : State := { s with sync.filter := false }

/-- The take of `lfo_sync` (R82, R261). -/
def clearLfoSync (s : State) : State := { s with sync.lfo := false }

/-- The take of `oscillator_sync` (R82, R131). -/
def clearOscillatorSync (s : State) : State := { s with sync.oscillator := false }

/-- R132: the pending flag is set; a tick that finds it set is an overrun. -/
def setSlowPending (s : State) : State :=
  { s with slowPending := true, overrun := s.overrun || s.slowPending }

/-- R133: the pending flag is consumed. -/
def clearSlowPending (s : State) : State := { s with slowPending := false }

end Sys2Proof.Machine
end

