-- ==== Sys2Proof/WellFormed.lean ====
section
/-! DEFINITION. Which terms of Instr a decoder can produce: operands inside the ranges of R100 after the clamp of R102, and no raw
or hard-sync square for the LFO (R107). -/

namespace Sys2Proof

/-- Operand ranges of R100 and R102: notes and velocities 0..127, controllers and slots 0..31. The LFO has no raw square and no
hard-sync square: its ids 4 and 5 select the square (R107). -/
def Instr.wellFormed : Instr → Bool
  | .nop => true
  | .audioTick => true
  | .slowTick => true
  | .mainStep => true
  | .noteOn note velocity => decide (note.toNat ≤ 127) && decide (velocity.toNat ≤ 127)
  | .noteOff note => decide (note.toNat ≤ 127)
  | .controlChange controller _ => decide (controller.toNat ≤ 31)
  | .pitchBend _ => true
  | .knob slot _ => decide (slot.toNat ≤ 31)
  | .reset => true
  | .busReady _ => true
  | .wSine _ => true
  | .wRamp _ => true
  | .wTriangle _ => true
  | .wSquare _ => true
  | .wRawSquare g => decide (g ≠ .lfo)
  | .wSyncSquare g => decide (g ≠ .lfo)
  | .wNoise _ => true
  | .wMorph0 _ => true
  | .wMorph1 _ => true
  | .wMorph2 _ => true
  | .wMorph3 _ => true
  | .wMorph4 _ => true
  | .wMorph5 _ => true
  | .wMorph6 _ => true
  | .wMorph7 _ => true
  | .wMorph8 _ => true
  | .jobFilter => true
  | .jobKnob => true
  | .jobPitch => true
  | .jobLfo => true

end Sys2Proof
end

