-- ==== Sys2Proof/Decode.lean ====
section
/-! DEFINITION. The three encoding spaces of spec/30_encoding.md: event words (R101 to R105), waveform ids (R106, R107) and
round-robin job codes (R108). The decoder, the encoder, the opcode table's rows, the trace syntax and pseudo-operations (R113,
R114), and the host's `decodeTableWord`. -/

namespace Sys2Proof

/-- What is decoded: an event word delivered to the engine, a waveform id read from the waveshape slot of an owner, or the job
code held in `rr_state` (assumption log 6). -/
inductive Code where
  /-- Format `EV`. -/
  | event (w : EventWord)
  /-- Format `WID`. -/
  | wave (g : Gen) (id : BitVec 4)
  /-- Format `JOB`. -/
  | job (code : BitVec 2)
deriving DecidableEq, Repr

/-- Why a code is no operation. -/
inductive DecodeError where
  /-- An event word with `op` 0x0B to 0xFF: reserved (R104; U1: the decoder refuses it). -/
  | reservedOp (op : Byte)
deriving DecidableEq, Repr

/-! ## Event words -/

/-- `op`, bits 23:16 (R101). -/
def eventOp (w : EventWord) : Byte := w.extractLsb' 16 8

/-- First operand `a`, bits 15:8 (R101). -/
def eventA (w : EventWord) : Byte := w.extractLsb' 8 8

/-- Second operand `b`, bits 7:0 (R101). -/
def eventB (w : EventWord) : Byte := w.extractLsb' 0 8

/-- The event word with the three fields (R101). -/
def eventWord (op a b : Byte) : EventWord := op ++ a ++ b

/-- `min(x, top)` on an unsigned operand (R102). -/
def clampTop (top x : Byte) : Byte := if x.toNat ≤ top.toNat then x else top

/-- `min(x, 127)`: a note or velocity operand (R102, R105). -/
def clampNoteOperand (x : Byte) : Byte := clampTop 127 x

/-- `min(x, 31)`: a controller or slot operand (R102, R105). -/
def clampSlotOperand (x : Byte) : Byte := clampTop 31 x

/-- R103: the operation of an event word; reserved codes rejected by name (R104). -/
def decodeEvent (w : EventWord) : Except DecodeError Instr :=
  match (eventOp w).toNat with
  | 0x00 => .ok .nop
  | 0x01 => .ok .audioTick
  | 0x02 => .ok .slowTick
  | 0x03 => .ok .mainStep
  | 0x04 => .ok (.noteOn (clampNoteOperand (eventA w)) (clampNoteOperand (eventB w)))
  | 0x05 => .ok (.noteOff (clampNoteOperand (eventA w)))
  | 0x06 => .ok (.controlChange (clampSlotOperand (eventA w)) (eventB w))
  | 0x07 => .ok (.pitchBend (eventB w))
  | 0x08 => .ok (.knob (clampSlotOperand (eventA w)) (eventB w))
  | 0x09 => .ok .reset
  | 0x0A => .ok (.busReady ((eventB w).getLsbD 0))
  | _ => .error (.reservedOp (eventOp w))

/-! ## Waveform ids -/

/-- R106: the waveform of a 4-bit id. -/
def decodeWaveId (id : BitVec 4) : WaveId :=
  match id.toNat with
  | 0 => .sine
  | 1 => .ramp
  | 2 => .triangle
  | 3 => .square
  | 4 => .rawSquare
  | 5 => .syncSquare
  | 6 => .noise
  | 7 => .morph 0
  | 8 => .morph 1
  | 9 => .morph 2
  | 10 => .morph 3
  | 11 => .morph 4
  | 12 => .morph 5
  | 13 => .morph 6
  | 14 => .morph 7
  | _ => .morph 8

/-- R106, R107: the waveform an owner evaluates for the id in its waveshape slot. Ids 4 and 5 are not LFO shapes: the LFO
evaluates id 3 instead. -/
def selectWave (g : Gen) (id : BitVec 4) : WaveId :=
  if g = .lfo ∧ (id = 4 ∨ id = 5) then decodeWaveId 3 else decodeWaveId id

/-- The operation that evaluates a waveform for an owner. -/
def waveInstr (g : Gen) : WaveId → Instr
  | .sine => .wSine g
  | .ramp => .wRamp g
  | .triangle => .wTriangle g
  | .square => .wSquare g
  | .rawSquare => .wRawSquare g
  | .syncSquare => .wSyncSquare g
  | .noise => .wNoise g
  | .morph k =>
    match k.val with
    | 0 => .wMorph0 g
    | 1 => .wMorph1 g
    | 2 => .wMorph2 g
    | 3 => .wMorph3 g
    | 4 => .wMorph4 g
    | 5 => .wMorph5 g
    | 6 => .wMorph6 g
    | 7 => .wMorph7 g
    | _ => .wMorph8 g

/-! ## Job codes -/

/-- R108: the job of a 2-bit code. -/
def decodeJobCode (code : BitVec 2) : Job :=
  match code.toNat with
  | 0 => .filter
  | 1 => .knob
  | 2 => .pitch
  | _ => .lfo

/-- R108: the code of a job. -/
def jobCode : Job → BitVec 2
  | .filter => 0
  | .knob => 1
  | .pitch => 2
  | .lfo => 3

/-- The operation a job is. -/
def jobInstr : Job → Instr
  | .filter => .jobFilter
  | .knob => .jobKnob
  | .pitch => .jobPitch
  | .lfo => .jobLfo

/-! ## The whole decoder and encoder -/

/-- The operation of a code; total, the one rejection named. -/
def decode : Code → Except DecodeError Instr
  | .event w => decodeEvent w
  | .wave g id => .ok (waveInstr g (selectWave g id))
  | .job code => .ok (jobInstr (decodeJobCode code))

/-- The code of an operation; unused operand fields are 0 (R113). -/
def encode : Instr → Code
  | .nop => .event (eventWord 0x00 0 0)
  | .audioTick => .event (eventWord 0x01 0 0)
  | .slowTick => .event (eventWord 0x02 0 0)
  | .mainStep => .event (eventWord 0x03 0 0)
  | .noteOn note velocity => .event (eventWord 0x04 note velocity)
  | .noteOff note => .event (eventWord 0x05 note 0)
  | .controlChange controller value => .event (eventWord 0x06 controller value)
  | .pitchBend value => .event (eventWord 0x07 0 value)
  | .knob slot value => .event (eventWord 0x08 slot value)
  | .reset => .event (eventWord 0x09 0 0)
  | .busReady level => .event (eventWord 0x0A 0 (if level then 1 else 0))
  | .wSine g => .wave g 0
  | .wRamp g => .wave g 1
  | .wTriangle g => .wave g 2
  | .wSquare g => .wave g 3
  | .wRawSquare g => .wave g 4
  | .wSyncSquare g => .wave g 5
  | .wNoise g => .wave g 6
  | .wMorph0 g => .wave g 7
  | .wMorph1 g => .wave g 8
  | .wMorph2 g => .wave g 9
  | .wMorph3 g => .wave g 10
  | .wMorph4 g => .wave g 11
  | .wMorph5 g => .wave g 12
  | .wMorph6 g => .wave g 13
  | .wMorph7 g => .wave g 14
  | .wMorph8 g => .wave g 15
  | .jobFilter => .job 0
  | .jobKnob => .job 1
  | .jobPitch => .job 2
  | .jobLfo => .job 3

/-! ## The opcode table's rows (spec/opcode_table.json) -/

/-- The three formats of the opcode table. -/
inductive Format where
  | ev
  | wid
  | job
deriving DecidableEq, Repr

/-- One row: a word `w` of the format selects the row when `w & mask = match` (R103). -/
structure Row where
  mnemonic : String
  format : Format
  pattern : Nat
  mask : Nat
deriving DecidableEq, Repr

/-- The row of an operation. -/
def Instr.row : Instr → Row
  | .nop => ⟨"NOP", .ev, 0x000000, 0xFF0000⟩
  | .audioTick => ⟨"AUDIO_TICK", .ev, 0x010000, 0xFF0000⟩
  | .slowTick => ⟨"SLOW_TICK", .ev, 0x020000, 0xFF0000⟩
  | .mainStep => ⟨"MAIN_STEP", .ev, 0x030000, 0xFF0000⟩
  | .noteOn _ _ => ⟨"NOTE_ON", .ev, 0x040000, 0xFF0000⟩
  | .noteOff _ => ⟨"NOTE_OFF", .ev, 0x050000, 0xFF0000⟩
  | .controlChange _ _ => ⟨"CONTROL_CHANGE", .ev, 0x060000, 0xFF0000⟩
  | .pitchBend _ => ⟨"PITCH_BEND", .ev, 0x070000, 0xFF0000⟩
  | .knob _ _ => ⟨"KNOB", .ev, 0x080000, 0xFF0000⟩
  | .reset => ⟨"RESET", .ev, 0x090000, 0xFF0000⟩
  | .busReady _ => ⟨"BUS_READY", .ev, 0x0A0000, 0xFF0000⟩
  | .wSine _ => ⟨"W_SINE", .wid, 0x0, 0xF⟩
  | .wRamp _ => ⟨"W_RAMP", .wid, 0x1, 0xF⟩
  | .wTriangle _ => ⟨"W_TRIANGLE", .wid, 0x2, 0xF⟩
  | .wSquare _ => ⟨"W_SQUARE", .wid, 0x3, 0xF⟩
  | .wRawSquare _ => ⟨"W_RAW_SQUARE", .wid, 0x4, 0xF⟩
  | .wSyncSquare _ => ⟨"W_SYNC_SQUARE", .wid, 0x5, 0xF⟩
  | .wNoise _ => ⟨"W_NOISE", .wid, 0x6, 0xF⟩
  | .wMorph0 _ => ⟨"W_MORPH_0", .wid, 0x7, 0xF⟩
  | .wMorph1 _ => ⟨"W_MORPH_1", .wid, 0x8, 0xF⟩
  | .wMorph2 _ => ⟨"W_MORPH_2", .wid, 0x9, 0xF⟩
  | .wMorph3 _ => ⟨"W_MORPH_3", .wid, 0xA, 0xF⟩
  | .wMorph4 _ => ⟨"W_MORPH_4", .wid, 0xB, 0xF⟩
  | .wMorph5 _ => ⟨"W_MORPH_5", .wid, 0xC, 0xF⟩
  | .wMorph6 _ => ⟨"W_MORPH_6", .wid, 0xD, 0xF⟩
  | .wMorph7 _ => ⟨"W_MORPH_7", .wid, 0xE, 0xF⟩
  | .wMorph8 _ => ⟨"W_MORPH_8", .wid, 0xF, 0xF⟩
  | .jobFilter => ⟨"JOB_FILTER", .job, 0x0, 0x3⟩
  | .jobKnob => ⟨"JOB_KNOB", .job, 0x1, 0x3⟩
  | .jobPitch => ⟨"JOB_PITCH", .job, 0x2, 0x3⟩
  | .jobLfo => ⟨"JOB_LFO", .job, 0x3, 0x3⟩

/-- The format of a code. -/
def Code.format : Code → Format
  | .event _ => .ev
  | .wave _ _ => .wid
  | .job _ => .job

/-- The bits of a code. -/
def Code.bits : Code → Nat
  | .event w => w.toNat
  | .wave _ id => id.toNat
  | .job code => code.toNat

/-- R103: the code selects the row. -/
def Row.selectedBy (r : Row) (c : Code) : Bool :=
  decide (c.format = r.format) && decide (c.bits &&& r.mask = r.pattern)

/-! ## The host's table words -/

/-- The code whose bits are `w`, numbered as spec/opcode_table.json numbers them. The table's two selector spaces are not told
apart by their bits: a word of one byte is read as a waveform id (of oscillator 0's waveshape slot), a word of at most two
bits as a job code (assumption log 7). -/
def tableCode (nbits w : Nat) : Code :=
  if nbits ≤ 2 then .job (BitVec.ofNat 2 w)
  else if nbits ≤ 8 then .wave .osc1 (BitVec.ofNat 4 w)
  else .event (BitVec.ofNat 24 w)

/-- The operation the decoder reads from a table word of `nbits` bits; none where it refuses. -/
def decodeTableWord (nbits w : Nat) : Option Instr :=
  match decode (tableCode nbits w) with
  | .ok i => some i
  | .error _ => none

/-! ## Trace syntax and pseudo-operations -/

/-- R113: one line of trace, the mnemonic and its used operands in decimal; none for the selector codes inside the engine, which
are no event words. -/
def Instr.traceLine (i : Instr) : Option String :=
  match i with
  | .nop => some i.row.mnemonic
  | .audioTick => some i.row.mnemonic
  | .slowTick => some i.row.mnemonic
  | .mainStep => some i.row.mnemonic
  | .noteOn a b => some (i.row.mnemonic ++ " " ++ toString a.toNat ++ ", " ++ toString b.toNat)
  | .noteOff a => some (i.row.mnemonic ++ " " ++ toString a.toNat)
  | .controlChange a b => some (i.row.mnemonic ++ " " ++ toString a.toNat ++ ", " ++ toString b.toNat)
  | .pitchBend b => some (i.row.mnemonic ++ " " ++ toString b.toNat)
  | .knob a b => some (i.row.mnemonic ++ " " ++ toString a.toNat ++ ", " ++ toString b.toNat)
  | .reset => some i.row.mnemonic
  | .busReady level => some (i.row.mnemonic ++ (if level then " 1" else " 0"))
  | .wSine _ => none
  | .wRamp _ => none
  | .wTriangle _ => none
  | .wSquare _ => none
  | .wRawSquare _ => none
  | .wSyncSquare _ => none
  | .wNoise _ => none
  | .wMorph0 _ => none
  | .wMorph1 _ => none
  | .wMorph2 _ => none
  | .wMorph3 _ => none
  | .wMorph4 _ => none
  | .wMorph5 _ => none
  | .wMorph6 _ => none
  | .wMorph7 _ => none
  | .wMorph8 _ => none
  | .jobFilter => none
  | .jobKnob => none
  | .jobPitch => none
  | .jobLfo => none

/-- R114: `TICK` = `SLOW_TICK` then `MAIN_STEP`. -/
def traceTick : List EventWord := [0x020000, 0x030000]

/-- R114: `TICK n`. -/
def traceTicks (n : Nat) : List EventWord := (List.replicate n traceTick).flatten

/-- R114: `AUDIO n`. -/
def traceAudio (n : Nat) : List EventWord := List.replicate n 0x010000

/-- R114: `FRAME` = `AUDIO_TICK` × `SLOW_DIV`, then `TICK`. -/
def traceFrame (slowDiv : Nat) : List EventWord := traceAudio slowDiv ++ traceTick

end Sys2Proof
end

