-- ==== Sys2Proof/Machine/Operands.lean ====
section
/-! DEFINITION. Operand forms: the event operands as the operations use them (spec/30_encoding.md R102), the fields of the slots
(R111, spec/10_state.md R30, R31), `dest()` and `gov(P)` (spec/00_scope.md R10), and the operands of `Wave` by owner. -/

namespace Sys2Proof.Machine

open Sys2Proof.Config (Tables)

/-- `min(a, 127)` as a note or velocity (R282, R283). -/
def noteOperand (a : Byte) : Note := (clampNoteOperand a).setWidth 7

/-- `min(a, 31)` as a slot number (R284, R286). -/
def slotOperand (a : Byte) : Slot := Fin.ofNat 32 (clampSlotOperand a).toNat

/-- R284: the slot a controller addresses: `LFO_AMOUNT` for controllers 0, 1, 2, else the controller number. -/
def controllerSlot (a : Byte) : Slot :=
  if (clampSlotOperand a).toNat ≤ 2 then SlotNo.lfoAmount else slotOperand a

/-- `DT` = `value[OSC_DETUNE][7:3]` (R111, R191). -/
def detuneField (s : State) : BitVec 5 := (s.value SlotNo.oscDetune).extractLsb' 3 5

/-- `PS` = `value[PITCH_SHIFT][7:1]` (R111, R192). -/
def pitchField (s : State) : Note := (s.value SlotNo.pitchShift).extractLsb' 1 7

/-- `value[PORTAMENTO][7:5]` (R111, R195). -/
def portamentoField (s : State) : BitVec 3 := (s.value SlotNo.portamento).extractLsb' 5 3

/-- `value[LFO_RATE][7:3]` (R111, R262). -/
def lfoRateField (s : State) : BitVec 5 := (s.value SlotNo.lfoRate).extractLsb' 3 5

/-- `value[LFO_DEST][7:5]` (R111, R263). -/
def lfoDestField (s : State) : BitVec 3 := (s.value SlotNo.lfoDest).extractLsb' 5 3

/-- `value[LFO_SYNC][7]` (R111, R261). -/
def lfoSyncEnable (s : State) : Bool := (s.value SlotNo.lfoSync).getLsbD 7

/-- `value[FILTER_ENV_AMOUNT] − 128`, the one signed slot (R111, R232). -/
def filterEnvAmount (s : State) : Int := (s.value SlotNo.filterEnvAmount).toNat - 128

/-- The waveshape slot of an owner (R106). -/
def waveshapeSlot : Gen → Slot
  | .osc1 => SlotNo.osc1Waveshape
  | .osc2 => SlotNo.osc2Waveshape
  | .lfo => SlotNo.lfoWaveshape

/-- The waveform id in an owner's waveshape slot, bits 7:4 (R106, R111). -/
def waveIdField (s : State) (g : Gen) : BitVec 4 := (s.value (waveshapeSlot g)).extractLsb' 4 4

/-- `dest()`: the slot the LFO currently targets (R10, R263). -/
def dest (c : Tables) (s : State) : Slot := lfoDestEntry c (lfoDestField s)

/-- `gov(P)`: the governing source value of a slot (R10, R264). -/
def gov (s : State) (p : Slot) : Byte :=
  match s.source p with
  | .external => s.override p
  | .knob => s.rawReading p
  | .loop => s.rawReading p

/-- The phase an owner evaluates its waveform at (R131, R172). -/
def wavePhase (s : State) : Gen → Word16
  | .osc1 => s.osc1.phase
  | .osc2 => s.osc2.phase
  | .lfo => s.lfo.phase

/-- The note-rate of an owner (R151). -/
def waveNoteRate (s : State) : Gen → Note
  | .osc1 => s.osc1.noteIndex
  | .osc2 => s.osc2.noteIndex
  | .lfo => Config.lfoNoteRate

/-- The morph timer's reload value of an owner (R159). -/
def waveReload (s : State) : Gen → Byte
  | .osc1 => s.value SlotNo.morphRate
  | .osc2 => s.value SlotNo.morphRate
  | .lfo => s.value SlotNo.lfoMorphRate

end Sys2Proof.Machine
end

