-- ==== Sys2Proof/Machine/HostEvents.lean ====
section
/-! DEFINITION. The host events (spec/46_host_events.md): notes, controllers, pitch bend, knobs, reset, bus readiness, NOP. -/

namespace Sys2Proof.Machine

open Sys2Proof.Config (Tables)

/-- The effect of NOTE_ON (R282). -/
def noteOn (a b : Byte) (s : State) : State :=
  { setSyncFlags s with
    osc1.noteIndex := noteOperand a
    velocity := noteOperand b
    keyDown := true
    noteOn := true }

/-- The effect of NOTE_OFF (R283). -/
def noteOff (a : Byte) (s : State) : State :=
  if noteOperand a = s.osc1.noteIndex then { s with keyDown := false } else s

/-- The `value` cell of a slot is written unless the slot is the LFO's destination (R284 to R286). -/
def applyUnlessDest (c : Tables) (p : Slot) (b : Byte) (before s : State) : State :=
  if p ≠ dest c before then s.setValue p b else s

/-- A value injected from outside: recorded, tagged External, applied unless the LFO owns the slot (R284, R285). -/
def inject (c : Tables) (p : Slot) (b : Byte) (s : State) : State :=
  applyUnlessDest c p b s ((s.setOverride p b).setSource p .external)

/-- The effect of KNOB (R286). -/
def knobReading (c : Tables) (p : Slot) (b : Byte) (s : State) : State :=
  applyUnlessDest c p b s ((s.setRawReading p b).setSource p .knob)

/-- The effect of RESET (R287): every state element of R60; the words still to come and the requests of the operation in hand
are not engine state (assumption log 17). -/
def resetEngine (c : Tables) (s : State) : State :=
  { State.resetWith c with emitted := s.emitted, inbox := s.inbox }

/-- The effect of BUS_READY (R288). -/
def setBusReady (level : Bool) (s : State) : State := { s with bus.ready := level }

/-- `NOP` (R281). -/
def execNop (s : State) : Host.Outcome State Fault Refusal := .next s

/-- `NOTE_ON note, velocity` (R282). -/
def execNoteOn (note velocity : Byte) (s : State) : Host.Outcome State Fault Refusal :=
  .next (noteOn note velocity s)

/-- `NOTE_OFF note` (R283). -/
def execNoteOff (note : Byte) (s : State) : Host.Outcome State Fault Refusal := .next (noteOff note s)

/-- `CONTROL_CHANGE controller, value` (R284). -/
def execControlChange (controller value : Byte) (s : State) : Host.Outcome State Fault Refusal :=
  .next (inject Config.tables (controllerSlot controller) value s)

/-- `PITCH_BEND value` (R285). -/
def execPitchBend (value : Byte) (s : State) : Host.Outcome State Fault Refusal :=
  .next (inject Config.tables SlotNo.pitchShift value s)

/-- `KNOB slot, value` (R286). -/
def execKnob (slot value : Byte) (s : State) : Host.Outcome State Fault Refusal :=
  .next (knobReading Config.tables (slotOperand slot) value s)

/-- `RESET` (R287). -/
def execReset (s : State) : Host.Outcome State Fault Refusal := .next (resetEngine Config.tables s)

/-- `BUS_READY level` (R288). -/
def execBusReady (level : Bool) (s : State) : Host.Outcome State Fault Refusal := .next (setBusReady level s)

end Sys2Proof.Machine
end

