-- ==== Sys2Proof/Machine/AmpEnvelope.lean ====
section
/-! DEFINITION. The amplitude envelope (spec/43_amplitude_envelope.md): the first part of every consuming MAIN_STEP. -/

namespace Sys2Proof.Machine

open Sys2Proof.Config (Tables)

/-- The velocity-scaled ceiling (R211). -/
def ampCeiling (velocity : Note) : Byte :=
  byteOf (((velocity.toNat * 2 * (Config.envSteps - Config.envFloor)) / 256 + Config.envFloor : Nat))

/-- The sustain target captured at Decay entry (R214). -/
def ampSustainTarget (knob ceiling : Byte) : Byte :=
  byteOf (floorShift (knob.toNat * (ceiling.toNat - Config.envFloor)) 8 + Config.envFloor)

/-- `SyncTake()` (R211). -/
def ampSyncTake (s : State) : State :=
  if s.sync.amplitude then
    { clearAmplitudeSync s with
      amp.phase := .attack
      amp.timer := 0
      amp.ceiling := ampCeiling s.velocity }
  else s

/-- `ForceRelease()` (R212). -/
def ampForceRelease (s : State) : State :=
  if s.keyDown = false ∧ s.amp.phase ≠ .release then { s with amp.phase := .release, amp.timer := 0 } else s

/-- `min(adsr_multiplier + st, amp_ceiling)` when below the ceiling, else the level (R214). -/
def ampAttackLevel (level ceiling : Byte) (st : Nat) : Byte :=
  if level.toNat < ceiling.toNat then byteOf (min (level.toNat + st) ceiling.toNat : Nat) else level

/-- `AttackStep()` (R214). -/
def ampAttackStep (c : Tables) (s : State) : State :=
  let r := c.envRate (s.value SlotNo.ampAttack)
  let level := ampAttackLevel s.adsrMultiplier s.amp.ceiling r.2.units
  let s1 := { s with amp.timer := r.1, adsrMultiplier := level }
  if s.amp.ceiling.toNat ≤ level.toNat then
    { s1 with
      amp.phase := .decay
      amp.sustain := ampSustainTarget (s.value SlotNo.ampSustain) s.amp.ceiling }
  else s1

/-- `max(adsr_multiplier − st, low)` (R215, R217). -/
def ampFallLevel (level low : Byte) (st : Nat) : Byte :=
  byteOf (max ((level.toNat : Int) - st) low.toNat)

/-- `DecayStep()` (R215). -/
def ampDecayStep (c : Tables) (s : State) : State :=
  let r := c.envRate (s.value SlotNo.ampDecay)
  let level := ampFallLevel s.adsrMultiplier s.amp.sustain r.2.units
  let s1 := { s with amp.timer := r.1, adsrMultiplier := level }
  if level.toNat ≤ s.amp.sustain.toNat then { s1 with amp.phase := .sustain } else s1

/-- `ReleaseStep()` (R217). -/
def ampReleaseStep (c : Tables) (s : State) : State :=
  let r := c.envRate (s.value SlotNo.ampRelease)
  let level := ampFallLevel s.adsrMultiplier (BitVec.ofNat 8 Config.envFloor) r.2.units
  let s1 := { s with amp.timer := r.1, adsrMultiplier := level }
  if level.toNat = Config.envFloor then { s1 with amp.phase := .attack, noteOn := false } else s1

/-- The timer gate and the stage rules (R210, R213, R216). -/
def ampAdvance (c : Tables) (s : State) : State :=
  if s.amp.phase = .sustain then s
  else if s.amp.timer ≠ 0 then { s with amp.timer := s.amp.timer - 1 }
  else
    match s.amp.phase with
    | .attack => ampAttackStep c s
    | .decay => ampDecayStep c s
    | .sustain => s
    | .release => ampReleaseStep c s

/-- The VCA control value (R219). -/
def vcaValue (level amplitude : Byte) : Byte :=
  byteOf (max (floorShift (level.toNat * amplitude.toNat) 8) Config.envFloor)

/-- `VcaWrite()` (R219). -/
def vcaWrite (s : State) : State := { s with vcaOut := vcaValue s.adsrMultiplier (s.value SlotNo.amplitude) }

/-- The part of the amplitude step that runs while a note sounds (R210). -/
def ampStage (c : Tables) (s : State) : State := if s.noteOn then ampAdvance c (ampForceRelease s) else s

/-- `AmplitudeStep()` (R210). -/
def amplitudeStep (c : Tables) (s : State) : State := vcaWrite (ampStage c (ampSyncTake s))

end Sys2Proof.Machine
end

