-- ==== Sys2Proof/Machine/FilterEnvelope.lean ====
section
/-! DEFINITION. The filter job (spec/44_filter_envelope.md): the additive cutoff envelope, the antilog curve and the bus-update
sequencer. -/

namespace Sys2Proof.Machine

open Sys2Proof.Config (Tables)

/-- `(value[FILTER_ENV_AMOUNT] − 128) << 8` (R232). -/
def fltPeakOf (s : State) : Int := shiftLeft (filterEnvAmount s) 8

/-- `FilterSyncTake()` (R232). -/
def fltSyncTake (s : State) : State :=
  if s.sync.filter then
    { clearFilterSync s with
      flt.active := true
      flt.phase := .attack
      flt.peak := s17Of (fltPeakOf s)
      flt.target := s17Of (fltPeakOf s)
      flt.slope := s17Of (tdiv (fltPeakOf s - s.flt.adder.toInt) (Config.fltSteps - s.flt.step.toNat))
      flt.timer := 0 }
  else s

/-- `FilterForceRelease()` (R233). -/
def fltForceRelease (s : State) : State :=
  if s.flt.active = true ∧ s.keyDown = false ∧ s.flt.phase ≠ .release then
    { s with
      flt.phase := .release
      flt.step := 0
      flt.target := 0
      flt.slope := s17Of (tdiv (0 - s.flt.adder.toInt) Config.fltSteps)
      flt.timer := 0 }
  else s

/-- `(flt_peak * value[FILTER_SUSTAIN]) >> 8` (R237). -/
def fltDecayTarget (peak : S17) (knob : Byte) : Int := floorShift (peak.toInt * knob.toNat) 8

/-- `StageEnd()` (R237). -/
def fltStageEnd (s : State) : State :=
  match s.flt.phase with
  | .attack =>
    let target := fltDecayTarget s.flt.peak (s.value SlotNo.filterSustain)
    { s with
      flt.phase := .decay
      flt.target := s17Of target
      flt.slope := s17Of (tdiv (target - s.flt.adder.toInt) Config.fltSteps) }
  | .decay => { s with flt.phase := .sustain }
  | .sustain => s
  | .release => { s with flt.phase := .attack, flt.active := false }

/-- `FilterStepOnce()` (R235). -/
def fltStepOnce (s : State) : State :=
  if s.flt.step.toNat + 1 = Config.fltSteps then
    fltStageEnd { s with flt.adder := s.flt.target, flt.step := 0 }
  else
    { s with
      flt.step := s.flt.step + 1
      flt.adder := s17Of (s.flt.adder.toInt + s.flt.slope.toInt) }

/-- The timer gate of one stage, with the stage's rate slot (R234, R236). -/
def fltTimed (c : Tables) (rateSlot : Slot) (s : State) : State :=
  if s.flt.timer ≠ 0 then { s with flt.timer := s.flt.timer - 1 }
  else fltStepOnce { s with flt.timer := c.fltRate (s.value rateSlot) }

/-- `FilterAdvance()` (R234, R236). -/
def fltAdvance (c : Tables) (s : State) : State :=
  if s.flt.active then
    match s.flt.phase with
    | .attack => fltTimed c SlotNo.filterAttack s
    | .decay => fltTimed c SlotNo.filterDecay s
    | .sustain => s
    | .release => fltTimed c SlotNo.filterRelease s
  else s

/-- `sat8(value[FILTER_CUTOFF] + (flt_adder >> 7))` (R240). -/
def cutoffValue (knob : Byte) (adder : S17) : Byte := sat8 (knob.toNat + floorShift adder.toInt 7)

/-- The combined cutoff is written (R240). -/
def fltCutoffWrite (s : State) : State :=
  { s with flt.cutoff := cutoffValue (s.value SlotNo.filterCutoff) s.flt.adder }

/-- The segment of the antilog curve, `x[7:5]`, and its upper breakpoint (R241). -/
def antilogSegment (x : Byte) : Nat := x.toNat / 32

/-- `Antilog(x)` (R241). -/
def antilog (c : Tables) (x : Byte) : Byte :=
  let lo : Int := (antilogBreak c (Fin.ofNat 9 (antilogSegment x))).toNat
  let hi : Int := (antilogBreak c (Fin.ofNat 9 (antilogSegment x + 1))).toNat
  byteOf (lo + floorShift ((hi - lo) * (x.toNat % 32 : Nat)) 5)

/-- An 8-bit value differs from a last-written register, and the bus is ready (R242, R247). -/
def busWrites (s : State) (v : Byte) (last : Last9) : Bool := decide (v.setWidth 9 ≠ last) && s.bus.ready

/-- What the current state of the sequencer does (R242 to R247). -/
def busState (c : Tables) (s : State) : State :=
  match s.bus.state with
  | .f1 =>
    let v := antilog c s.flt.cutoff
    let s1 := { s with bus.latch := v }
    if busWrites s1 v s1.bus.lastF1 then { s1.emit .freq1 v with bus.lastF1 := v.setWidth 9 } else s1
  | .f2 =>
    if busWrites s s.bus.latch s.bus.lastF2 then
      { s.emit .freq2 s.bus.latch with bus.lastF2 := s.bus.latch.setWidth 9 }
    else s
  | .res =>
    if busWrites s (s.value SlotNo.filterQ) s.bus.lastQ then
      { s.emit .resonance (s.value SlotNo.filterQ) with bus.lastQ := (s.value SlotNo.filterQ).setWidth 9 }
    else s
  | .wait => s

/-- `BusStep()` (R242). -/
def busStep (c : Tables) (s : State) : State :=
  let s1 := busState c s
  { s1 with bus.state := nextBusState s.bus.state }

/-- The envelope part of the job (R232 to R238). -/
def fltEnvelope (c : Tables) (s : State) : State := fltAdvance c (fltForceRelease (fltSyncTake s))

/-- `FilterJob()` (R230). -/
def filterJob (c : Tables) (s : State) : State := busStep c (fltCutoffWrite (fltEnvelope c s))

/-- `JOB_FILTER` (R230). -/
def execJobFilter (s : State) : Host.Outcome State Fault Refusal := .next (filterJob Config.tables s)

end Sys2Proof.Machine
end

