-- ==== Sys2Proof/Machine/Oscillator.lean ====
section
/-! DEFINITION. The OscillatorEngine (spec/41_oscillator.md): the waveform functions, `Wave`, and the meanings of the 16 waveform
rows. -/

namespace Sys2Proof.Machine

open Sys2Proof.Config (Tables)

/-- `idx(ph)` = `ph[15:8]` (R151). -/
def phaseIndex (ph : Word16) : Byte := ph.extractLsb' 8 8

/-- `frac(ph)` = `ph[7:0]` (R151). -/
def phaseFrac (ph : Word16) : Byte := ph.extractLsb' 0 8

/-- `band(n)` = `n[6:2]` (R151). -/
def noteBand (n : Note) : BitVec 5 := n.extractLsb' 2 5

/-- `pos(n)` = `n[1:0]` (R151). -/
def notePos (n : Note) : BitVec 2 := n.extractLsb' 0 2

/-- `Sine(ph)` (R152). -/
def sineWave (c : Tables) (ph : Word16) : Byte :=
  let a : Int := (c.sine (phaseIndex ph)).toNat
  let b : Int := (c.sine (phaseIndex ph + 1)).toNat
  byteOf (a + floorShift ((b - a) * (phaseFrac ph).toNat) 8)

/-- `max(b − 1, 0)`: the band below (R153). -/
def bandBelow (b : BitVec 5) : BitVec 5 := if b = 0 then 0 else b - 1

/-- `min(b + 1, 31)`: the band above (R153). -/
def bandAbove (b : BitVec 5) : BitVec 5 := if b = 31 then 31 else b + 1

/-- `Blend(T, ph, n)` (R153). -/
def blend (T : BitVec 5 → Byte → Byte) (ph : Word16) (n : Note) : Byte :=
  let i := phaseIndex ph
  let b := noteBand n
  let own : Int := (T b i).toNat
  let lo : Int := (T (bandBelow b) i).toNat
  let hi : Int := (T (bandAbove b) i).toNat
  match (notePos n).toNat with
  | 0 => byteOf (floorShift (lo + own) 1)
  | 1 => byteOf (floorShift (3 * own + lo) 2)
  | 2 => byteOf (floorShift (3 * own + hi) 2)
  | _ => byteOf (floorShift (own + hi) 1)

/-- `Ramp(ph, n)` (R153). -/
def rampWave (c : Tables) (ph : Word16) (n : Note) : Byte := blend c.rampBank ph n

/-- `Triangle(ph, n)` (R154). -/
def triangleWave (c : Tables) (ph : Word16) (n : Note) : Byte := blend c.triBank ph n

/-- `Square(ph, n)` (R155). -/
def squareWave (c : Tables) (ph : Word16) (n : Note) : Byte :=
  sat8 ((rampWave c ph n).toNat - (rampWave c (ph + Config.pulseWidth) n).toNat + 128)

/-- W_RAW_SQUARE's sample (R156). -/
def rawSquareWave (c : Tables) (ph : Word16) : Byte := c.rawSq (phaseIndex ph)

/-- W_SYNC_SQUARE's sample (R157). -/
def syncSquareWave (c : Tables) (ph : Word16) : Byte := c.syncSq (phaseIndex ph)

/-- The noise register after one step (R158): shift left, the feedback of taps 15, 13, 12, 10 enters at bit 0. -/
def lfsrStep (r : Word16) : Word16 :=
  let fb := Bool.xor (Bool.xor (r.getLsbD 15) (r.getLsbD 13)) (Bool.xor (r.getLsbD 12) (r.getLsbD 10))
  (r <<< 1) ||| (if fb then 1 else 0)

/-- `Noise(g)`: the stepped record (R158). -/
def noiseStep (g : GenRec) : GenRec := { g with lfsr := lfsrStep g.lfsr }

/-- `Noise(g)`: the sample, "low byte of the register after the shift" (R158). -/
def noiseSample (g : GenRec) : Byte := g.lfsr.extractLsb' 0 8

/-- `MorphStep(g, reload)` (R159). -/
def morphStep (g : GenRec) (reload : Byte) : GenRec :=
  if g.morphTimer = 0 then { g with morphTimer := reload, morphIndex := g.morphIndex + 1 }
  else { g with morphTimer := g.morphTimer - 1 }

/-- Reference instance of `MORPH_FN[0]` (R161); not the device's recipe (assumption log 19). -/
def referenceMorph0 (c : Tables) (ph : Word16) (mi : Byte) : Byte :=
  byteOf (128 + floorShift (((sineWave c ph).toNat - 128) * mi.toNat) 8)

/-- Reference instance of `MORPH_FN[1]` (R162); not the device's recipe (assumption log 19). -/
def referenceMorph1 (c : Tables) (ph : Word16) (mi : Byte) : Byte :=
  let o : Word16 := mi ++ (0 : Byte)
  let a : Int := (c.rawSq (phaseIndex (ph + o))).toNat
  let b : Int := (c.rawSq (phaseIndex (ph + 0x8000 - o))).toNat
  byteOf (floorShift (a + b) 1)

/-- `Wave(g, id, ph, n, reload)` (R150): the record after, and the sample. -/
def wave (c : Tables) (w : WaveId) (g : GenRec) (ph : Word16) (n : Note) (reload : Byte) : GenRec × Byte :=
  match w with
  | .sine => (g, sineWave c ph)
  | .ramp => (g, rampWave c ph n)
  | .triangle => (g, triangleWave c ph n)
  | .square => (g, squareWave c ph n)
  | .rawSquare => (g, rawSquareWave c ph)
  | .syncSquare => (g, syncSquareWave c ph)
  | .noise => (noiseStep g, noiseSample (noiseStep g))
  | .morph k => (morphStep g reload, c.morphFn k ph n (morphStep g reload).morphIndex)

/-- An owner evaluates a waveform: `Wave` with the owner's record, phase, note-rate and reload; the record is updated and the
sample taken (R131, R150, R172). -/
def evalWave (c : Tables) (w : WaveId) (g : Gen) (s : State) : State :=
  let r := wave c w (s.gen g) (wavePhase s g) (waveNoteRate s g) (waveReload s g)
  (s.setGen g r.1).setSample g r.2

/-- `W_SINE` (R152). -/
def execWSine (g : Gen) (s : State) : Host.Outcome State Fault Refusal :=
  .next (evalWave Config.tables .sine g s)

/-- `W_RAMP` (R153). -/
def execWRamp (g : Gen) (s : State) : Host.Outcome State Fault Refusal :=
  .next (evalWave Config.tables .ramp g s)

/-- `W_TRIANGLE` (R154). -/
def execWTriangle (g : Gen) (s : State) : Host.Outcome State Fault Refusal :=
  .next (evalWave Config.tables .triangle g s)

/-- `W_SQUARE` (R155). -/
def execWSquare (g : Gen) (s : State) : Host.Outcome State Fault Refusal :=
  .next (evalWave Config.tables .square g s)

/-- `W_RAW_SQUARE` (R156). -/
def execWRawSquare (g : Gen) (s : State) : Host.Outcome State Fault Refusal :=
  .next (evalWave Config.tables .rawSquare g s)

/-- `W_SYNC_SQUARE` (R157). -/
def execWSyncSquare (g : Gen) (s : State) : Host.Outcome State Fault Refusal :=
  .next (evalWave Config.tables .syncSquare g s)

/-- `W_NOISE` (R158). -/
def execWNoise (g : Gen) (s : State) : Host.Outcome State Fault Refusal :=
  .next (evalWave Config.tables .noise g s)

/-- `W_MORPH_0` (R161). -/
def execWMorph0 (g : Gen) (s : State) : Host.Outcome State Fault Refusal :=
  .next (evalWave Config.tables (.morph 0) g s)

/-- `W_MORPH_1` (R162). -/
def execWMorph1 (g : Gen) (s : State) : Host.Outcome State Fault Refusal :=
  .next (evalWave Config.tables (.morph 1) g s)

/-- `W_MORPH_2` (R163). -/
def execWMorph2 (g : Gen) (s : State) : Host.Outcome State Fault Refusal :=
  .next (evalWave Config.tables (.morph 2) g s)

/-- `W_MORPH_3` (R164). -/
def execWMorph3 (g : Gen) (s : State) : Host.Outcome State Fault Refusal :=
  .next (evalWave Config.tables (.morph 3) g s)

/-- `W_MORPH_4` (R165). -/
def execWMorph4 (g : Gen) (s : State) : Host.Outcome State Fault Refusal :=
  .next (evalWave Config.tables (.morph 4) g s)

/-- `W_MORPH_5` (R166). -/
def execWMorph5 (g : Gen) (s : State) : Host.Outcome State Fault Refusal :=
  .next (evalWave Config.tables (.morph 5) g s)

/-- `W_MORPH_6` (R167). -/
def execWMorph6 (g : Gen) (s : State) : Host.Outcome State Fault Refusal :=
  .next (evalWave Config.tables (.morph 6) g s)

/-- `W_MORPH_7` (R168). -/
def execWMorph7 (g : Gen) (s : State) : Host.Outcome State Fault Refusal :=
  .next (evalWave Config.tables (.morph 7) g s)

/-- `W_MORPH_8` (R169). -/
def execWMorph8 (g : Gen) (s : State) : Host.Outcome State Fault Refusal :=
  .next (evalWave Config.tables (.morph 8) g s)

end Sys2Proof.Machine
end

