-- ==== Sys2Proof/Machine/Lfo.lean ====
section
/-! DEFINITION. The LFO job (spec/45_lfo.md): the phase accumulator, source arbitration and modulation. -/

namespace Sys2Proof.Machine

open Sys2Proof.Config (Tables)

/-- The sync take and the phase (R260, R261, R262): a job that resets the phase does not also advance it. -/
def lfoPhaseStep (c : Tables) (s : State) : State :=
  if s.sync.lfo && lfoSyncEnable s then { clearLfoSync s with lfo.phase := 0 }
  else { clearLfoSync s with lfo.phase := s.lfo.phase + c.lfoRate (lfoRateField s) }

/-- The slot the LFO has left is restored from its governing source (R263). -/
def lfoHandBack (d : Slot) (s : State) : State :=
  if d ≠ s.lfo.lastDest then
    { s.setValue s.lfo.lastDest (gov s s.lfo.lastDest) with lfo.lastDest := d }
  else s

/-- The value a bypassed destination takes (R266). -/
def lfoBypassValue (d : Slot) (init : Byte) : Byte := if d = SlotNo.amplitude then 255 else init

/-- `sat8(init + (((smp − 128) × amt) >> 7))` (R267). -/
def lfoModulated (init smp amt : Byte) : Byte :=
  sat8 (init.toNat + floorShift (((smp.toNat : Int) - 128) * amt.toNat) 7)

/-- The write of the destination (R264 to R267). -/
def lfoApply (c : Tables) (d : Slot) (s : State) : State :=
  let init := gov s d
  let amt := s.value SlotNo.lfoAmount
  if amt.toNat ≤ 1 then s.setValue d (lfoBypassValue d init)
  else
    let s1 := evalWave c (selectWave .lfo (waveIdField s .lfo)) .lfo s
    s1.setValue d (lfoModulated init (s1.sample .lfo) amt)

/-- `LfoJob()` (R260). -/
def lfoJob (c : Tables) (s : State) : State :=
  let s1 := lfoPhaseStep c s
  let d := dest c s1
  lfoApply c d (lfoHandBack d s1)

/-- `JOB_LFO` (R260). -/
def execJobLfo (s : State) : Host.Outcome State Fault Refusal := .next (lfoJob Config.tables s)

end Sys2Proof.Machine
end

