-- ==== Sys2Proof/Machine/PitchGlide.lean ====
section
/-! DEFINITION. The pitch job (spec/42_pitch_glide.md): detune, pitch shift, and the frequency interpolator. -/

namespace Sys2Proof.Machine

open Sys2Proof.Config (Tables)

/-- `clamp(note_index[0] + DT − 16, 0, 127)` (R191). -/
def detunedNote (n : Note) (dt : BitVec 5) : Note := clampNote ((n.toNat : Int) + dt.toNat - 16)

/-- `Detune()` (R191). -/
def detune (s : State) : State := { s with osc2.noteIndex := detunedNote s.osc1.noteIndex (detuneField s) }

/-- `shift` of `PitchShift()` (R192): a quarter of the deviation from the centre 64, toward zero. -/
def pitchShift (ps : Note) : Int :=
  if 64 ≤ ps.toNat then floorShift ((ps.toNat : Int) - 64) 2 else -floorShift (64 - (ps.toNat : Int)) 2

/-- `GlideRequired(PS)` (R193). -/
def glideRequired (c : Tables) (s : State) (ps : Note) : Bool :=
  (decide (dest c s = SlotNo.pitchShift) && decide (1 < (s.value SlotNo.lfoAmount).toNat))
    || decide (ps ≠ 64)
    || decide (s.value SlotNo.portamento ≠ 0)

/-- `L` of `StepLog2()` (R195); `N` is `2^L`. -/
def stepLog2 (s : State) : Nat :=
  if s.value SlotNo.portamento ≠ 0 then 5 + (portamentoField s).toNat else 7

/-- `Increment(osc, delta, L, N)`: `g_inc` (R198). -/
def glideInc (delta : Int) (L : Nat) : Int :=
  if delta.natAbs < 2 ^ L then delta.sign else delta.sign * floorShift delta.natAbs L

/-- `Increment(osc, delta, L, N)`: `g_total` (R198). -/
def glideTotal (delta : Int) (L : Nat) : Nat := if delta.natAbs < 2 ^ L then delta.natAbs else 2 ^ L

/-- `Bypass()` for one oscillator (R196). -/
def bypassOsc (c : Tables) (o : OscRegs) : OscRegs :=
  { o with
    noteFrequency := noteFreq c o.noteIndex
    targetNote := o.noteIndex
    targetFreq := noteFreq c o.noteIndex
    inc := 0
    count := 0
    total := 0 }

/-- `Retarget(shift)` for one oscillator (R197). -/
def retargetOsc (c : Tables) (shift : Int) (L : Nat) (o : OscRegs) : OscRegs :=
  let target := clampNote (o.noteIndex.toNat + shift)
  let tf := noteFreq c target
  let delta : Int := (tf.toNat : Int) - o.noteFrequency.toNat
  { o with
    targetNote := target
    inc := s17Of (glideInc delta L)
    total := BitVec.ofNat 16 (glideTotal delta L)
    targetFreq := tf
    count := 0 }

/-- `GlideStep()` for one oscillator (R199). R199 keeps `note_frequency + g_inc` in 0..65535 for the registers the operations
leave; in a state outside the glide invariant it may leave that range, and the 16-bit store then wraps (DESIGN CHOICE;
assumption log 11). -/
def glideStepOsc (o : OscRegs) : OscRegs :=
  if o.count.toNat < o.total.toNat then
    if o.count.toNat + 1 = o.total.toNat then { o with count := o.count + 1, noteFrequency := o.targetFreq }
    else { o with count := o.count + 1, noteFrequency := word16Of (o.noteFrequency.toNat + o.inc.toInt) }
  else o

/-- `Bypass()` (R196). -/
def bypass (c : Tables) (s : State) : State :=
  { s with osc1 := bypassOsc c s.osc1, osc2 := bypassOsc c s.osc2 }

/-- `Retarget(shift)` (R197). -/
def retarget (c : Tables) (shift : Int) (s : State) : State :=
  { s with
    osc1 := retargetOsc c shift (stepLog2 s) s.osc1
    osc2 := retargetOsc c shift (stepLog2 s) s.osc2 }

/-- `GlideStep()` (R199). -/
def glideStep (s : State) : State := { s with osc1 := glideStepOsc s.osc1, osc2 := glideStepOsc s.osc2 }

/-- The retarget trigger (R190, R197). -/
def retargetTrigger (s : State) (ps : Note) : Bool :=
  decide (ps ≠ s.lastPs) || decide (s.osc1.noteIndex ≠ s.osc1.lastNote)
    || decide (s.osc2.noteIndex ≠ s.osc2.lastNote)

/-- The glide branch of the job (R190). -/
def glide (c : Tables) (ps : Note) (s : State) : State :=
  glideStep (if retargetTrigger s ps then retarget c (pitchShift ps) s else s)

/-- The bookkeeping at the end of the job (R200). -/
def pitchBookkeeping (ps : Note) (s : State) : State :=
  { s with
    lastPs := ps
    osc1.lastNote := s.osc1.noteIndex
    osc2.lastNote := s.osc2.noteIndex }

/-- `PitchJob()` (R190). -/
def pitchJob (c : Tables) (s : State) : State :=
  let s1 := detune s
  let ps := pitchField s1
  pitchBookkeeping ps (if glideRequired c s1 ps then glide c ps s1 else bypass c s1)

/-- `JOB_PITCH` (R190). -/
def execJobPitch (s : State) : Host.Outcome State Fault Refusal := .next (pitchJob Config.tables s)

end Sys2Proof.Machine
end

