-- ==== Sys2Proof/Machine/Scheduler.lean ====
section
/-! DEFINITION. The scheduler operations (spec/40_scheduler.md): AUDIO_TICK, SLOW_TICK, MAIN_STEP and the knob job. -/

namespace Sys2Proof.Machine

open Sys2Proof.Config (Tables)

/-- The take of `oscillator_sync` (R131). -/
def audioSyncTake (s : State) : State :=
  if s.sync.oscillator then { clearOscillatorSync s with osc1.phase := 0, osc2.phase := 0 } else s

/-- Both phases advance by their frequencies, modulo 2^16 (R131, R136). -/
def advancePhases (s : State) : State :=
  { s with
    osc1.phase := s.osc1.phase + s.osc1.noteFrequency
    osc2.phase := s.osc2.phase + s.osc2.noteFrequency }

/-- An oscillator evaluates the waveform its waveshape slot selects (R131). -/
def oscillate (c : Tables) (g : Gen) (s : State) : State := evalWave c (selectWave g (waveIdField s g)) g s

/-- The mixer (R137). -/
def mixSamples (s0 s1 mix : Byte) : Byte :=
  byteOf (floorShift ((s0.toNat * (256 - mix.toNat) + s1.toNat * mix.toNat : Nat)) 8)

/-- The one-pole smoothing filter (R138). -/
def smooth (lp mixed : Byte) : Byte :=
  byteOf ((lp.toNat : Int) + floorShift ((mixed.toNat : Int) - lp.toNat) 2)

/-- The mixed and smoothed sample goes out (R131). -/
def audioMix (s : State) : State :=
  let out := smooth s.lpOut (mixSamples s.samples.osc1 s.samples.osc2 (s.value SlotNo.oscMix))
  { s with lpOut := out, audioOut := out }

/-- The note-off branch (R131, R139). -/
def audioSilence (s : State) : State :=
  { s with audioOut := Config.silence, lpOut := Config.silence, osc1.phase := 0, osc2.phase := 0 }

/-- The effect of AUDIO_TICK (R131). -/
def audioTick (c : Tables) (s : State) : State :=
  if s.noteOn then audioMix (oscillate c .osc2 (oscillate c .osc1 (advancePhases (audioSyncTake s))))
  else audioSilence s

/-- `KnobJob()` (R135): an empty turn. -/
def knobJob (s : State) : State := s

/-- The job that `rr_state` selects (R133, R134). -/
def runJob (c : Tables) (j : Job) (s : State) : State :=
  match j with
  | .filter => filterJob c s
  | .knob => knobJob s
  | .pitch => pitchJob c s
  | .lfo => lfoJob c s

/-- `rr_state <- trunc_2(rr_state + 1)` (R133). -/
def advanceRoundRobin (s : State) : State := { s with rrState := nextJob s.rrState }

/-- The effect of MAIN_STEP (R133). -/
def mainStep (c : Tables) (s : State) : State :=
  if s.slowPending then
    advanceRoundRobin (runJob c s.rrState (amplitudeStep c (clearSlowPending s)))
  else s

/-- `AUDIO_TICK` (R131). -/
def execAudioTick (s : State) : Host.Outcome State Fault Refusal := .next (audioTick Config.tables s)

/-- `SLOW_TICK` (R132). -/
def execSlowTick (s : State) : Host.Outcome State Fault Refusal := .next (setSlowPending s)

/-- `MAIN_STEP` (R133). -/
def execMainStep (s : State) : Host.Outcome State Fault Refusal := .next (mainStep Config.tables s)

/-- `JOB_KNOB` (R135). -/
def execJobKnob (s : State) : Host.Outcome State Fault Refusal := .next (knobJob s)

end Sys2Proof.Machine
end

