-- ==== Sys2Proof/Machine/Dispatch.lean ====
section
/-! DEFINITION. The meaning of every operation, one arm each. -/

namespace Sys2Proof.Machine

def exec (i : Instr) (s : State) : Host.Outcome State Fault Refusal :=
  match i with
  | .nop => Sys2Proof.Machine.execNop s
  | .audioTick => Sys2Proof.Machine.execAudioTick s
  | .slowTick => Sys2Proof.Machine.execSlowTick s
  | .mainStep => Sys2Proof.Machine.execMainStep s
  | .noteOn note velocity => Sys2Proof.Machine.execNoteOn note velocity s
  | .noteOff note => Sys2Proof.Machine.execNoteOff note s
  | .controlChange controller value => Sys2Proof.Machine.execControlChange controller value s
  | .pitchBend value => Sys2Proof.Machine.execPitchBend value s
  | .knob slot value => Sys2Proof.Machine.execKnob slot value s
  | .reset => Sys2Proof.Machine.execReset s
  | .busReady level => Sys2Proof.Machine.execBusReady level s
  | .wSine g => Sys2Proof.Machine.execWSine g s
  | .wRamp g => Sys2Proof.Machine.execWRamp g s
  | .wTriangle g => Sys2Proof.Machine.execWTriangle g s
  | .wSquare g => Sys2Proof.Machine.execWSquare g s
  | .wRawSquare g => Sys2Proof.Machine.execWRawSquare g s
  | .wSyncSquare g => Sys2Proof.Machine.execWSyncSquare g s
  | .wNoise g => Sys2Proof.Machine.execWNoise g s
  | .wMorph0 g => Sys2Proof.Machine.execWMorph0 g s
  | .wMorph1 g => Sys2Proof.Machine.execWMorph1 g s
  | .wMorph2 g => Sys2Proof.Machine.execWMorph2 g s
  | .wMorph3 g => Sys2Proof.Machine.execWMorph3 g s
  | .wMorph4 g => Sys2Proof.Machine.execWMorph4 g s
  | .wMorph5 g => Sys2Proof.Machine.execWMorph5 g s
  | .wMorph6 g => Sys2Proof.Machine.execWMorph6 g s
  | .wMorph7 g => Sys2Proof.Machine.execWMorph7 g s
  | .wMorph8 g => Sys2Proof.Machine.execWMorph8 g s
  | .jobFilter => Sys2Proof.Machine.execJobFilter s
  | .jobKnob => Sys2Proof.Machine.execJobKnob s
  | .jobPitch => Sys2Proof.Machine.execJobPitch s
  | .jobLfo => Sys2Proof.Machine.execJobLfo s

end Sys2Proof.Machine
end

