-- ==== Sys2Proof/Machine/Delivery.lean ====
section
/-! DEFINITION. How an event word is delivered and performed, and how a table word is placed so that the next step runs it. -/

namespace Sys2Proof.Machine

/-- One operation begins: its word leaves the inbox, and nothing has been emitted by it yet (R47; assumption log 3, 4). -/
def beginOperation (rest : List EventWord) (s : State) : State := { s with inbox := rest, emitted := [] }

/-- One event word is performed (R100, R103). A reserved code "changes no state and emits nothing: it behaves as NOP" (R104,
R302; assumption log 8). -/
def perform (w : EventWord) (s : State) : Host.Outcome State Fault Refusal :=
  match decode (.event w) with
  | .ok i => exec i s
  | .error (.reservedOp _) => .next s

/-- One step: the next event word is performed; with none to perform the engine "holds its state" (R313). -/
def deliver (s : State) : Host.Outcome State Fault Refusal :=
  match s.inbox with
  | [] => .next s
  | w :: rest => perform w (beginOperation rest s)

/-- A waveshape slot holding a waveform id in bits 7:4 and 0 in the low bits, which no rule reads (R106, R31). -/
def withWaveId (id : BitVec 4) (p : Slot) (s : State) : State := s.setValue p (id ++ 0#4)

/-- The state in which the next step runs the operation of a code: an event word is the next to be delivered; a waveform id
stands in both oscillators' waveshape slots and an AUDIO_TICK comes next while a note sounds; a job code stands in `rr_state`
and a MAIN_STEP comes next with a slow tick pending (assumption log 6). -/
def placeCode (c : Code) (s : State) : State :=
  match c with
  | .event w => { s with inbox := w :: s.inbox }
  | .wave _ id =>
    { withWaveId id SlotNo.osc2Waveshape (withWaveId id SlotNo.osc1Waveshape s) with
      noteOn := true
      inbox := 0x010000 :: s.inbox }
  | .job code => { s with rrState := decodeJobCode code, slowPending := true, inbox := 0x030000 :: s.inbox }

end Sys2Proof.Machine
end

