-- ==== Sys2Proof/Machine/Step.lean ====
section
/-! DEFINITION. One step of the machine, and the host's placement of a table word. -/

namespace Sys2Proof.Machine

/-- One step: one operation (R80), performed from the next event word. -/
def step (s : State) : Host.Outcome State Fault Refusal := deliver s

/-- `s` with the operation of a table word placed so that the next step runs it (assumption log 6, 7). -/
def State.withFetchWord (s : State) (nbits w : Nat) : State := placeCode (tableCode nbits w) s

end Sys2Proof.Machine
end

