-- ==== Sys2Proof/Safety.lean ====
section
/-! DEFINITION. What the statements call safe: the invariants of spec/10_state.md R45 and of the rules that derive them, by
component, and the part of the state the main loop works on (spec/40_scheduler.md R140). A step of this machine never faults or
refuses (R300), so a run is safe when these invariants hold along it. -/

namespace Sys2Proof.Machine

/-- The amplitude envelope's invariants (R29, R45, R216, R218, R220). -/
structure AmpSafe (s : State) : Prop where
  level : 47 ≤ s.adsrMultiplier.toNat
  vca : 47 ≤ s.vcaOut.toNat
  ceilingLow : 47 ≤ s.amp.ceiling.toNat
  ceilingHigh : s.amp.ceiling.toNat ≤ 253
  sustainLow : 47 ≤ s.amp.sustain.toNat
  idle : s.noteOn = false → s.amp.phase = .attack ∧ s.adsrMultiplier.toNat = 47
  armed : s.sync.amplitude = true → s.noteOn = true
  decaying : s.amp.phase = .decay → s.amp.sustain.toNat ≤ s.adsrMultiplier.toNat
  holding : s.amp.phase = .sustain → s.adsrMultiplier = s.amp.sustain

/-- The steps still to come do not carry a register past its target: `slope × remaining` lies between 0 and the gap (R199,
R235). -/
def StaysOnPath (slope remaining gap : Int) : Prop :=
  (0 ≤ slope ∧ slope * remaining ≤ gap) ∨ (slope ≤ 0 ∧ gap ≤ slope * remaining)

/-- The filter envelope's invariants (R41, R231, R235, R238, R239). -/
structure FilterSafe (f : FltRegs) : Prop where
  peakLow : -32768 ≤ f.peak.toInt
  peakHigh : f.peak.toInt ≤ 32512
  targetLow : min 0 f.peak.toInt ≤ f.target.toInt
  targetHigh : f.target.toInt ≤ max 0 f.peak.toInt
  adderLow : -32768 ≤ f.adder.toInt
  adderHigh : f.adder.toInt ≤ 32512
  idle : f.active = false → f.phase = .attack ∧ f.step = 0 ∧ f.adder = 0
  holding : f.phase = .sustain → f.step = 0 ∧ f.adder = f.target
  falling : f.phase = .release → f.target = 0
  path : f.active = true → f.phase ≠ .sustain →
    StaysOnPath f.slope.toInt (128 - f.step.toNat) (f.target.toInt - f.adder.toInt)

/-- The glide registers' invariants (R45, R198, R199). -/
structure GlideSafe (o : OscRegs) : Prop where
  countLe : o.count.toNat ≤ o.total.toNat
  arrived : o.count = o.total → o.noteFrequency = o.targetFreq
  path : StaysOnPath o.inc.toInt ((o.total.toNat : Int) - o.count.toNat)
    ((o.targetFreq.toNat : Int) - o.noteFrequency.toNat)

/-- Codes and registers that stay legal: no slot is tagged Loop (R24), no noise register is 0 (R158), no last-written register
is above 0x100 (R42). -/
structure CodesSafe (s : State) : Prop where
  noLoop : ∀ p : Slot, s.source p ≠ .loop
  noise1 : s.gen1.lfsr ≠ 0
  noise2 : s.gen2.lfsr ≠ 0
  noiseLfo : s.genLfo.lfsr ≠ 0
  lastF1 : s.bus.lastF1.toNat ≤ 256
  lastF2 : s.bus.lastF2.toNat ≤ 256
  lastQ : s.bus.lastQ.toNat ≤ 256

/-- The state without what only AUDIO_TICK writes or takes (R81, R140): two states with one view differ only there. -/
def mainView (s : State) : State :=
  { s with
    osc1.phase := 0
    osc2.phase := 0
    gen1 := .reset
    gen2 := .reset
    samples.osc1 := 0
    samples.osc2 := 0
    lpOut := 0
    audioOut := 0
    sync.oscillator := false }

/-- Two states agree on all that AUDIO_TICK reads (R140). -/
structure SameAudioInputs (s t : State) : Prop where
  noteOn : s.noteOn = t.noteOn
  sync : s.sync.oscillator = t.sync.oscillator
  freq1 : s.osc1.noteFrequency = t.osc1.noteFrequency
  freq2 : s.osc2.noteFrequency = t.osc2.noteFrequency
  note1 : s.osc1.noteIndex = t.osc1.noteIndex
  note2 : s.osc2.noteIndex = t.osc2.noteIndex
  wave1 : s.value SlotNo.osc1Waveshape = t.value SlotNo.osc1Waveshape
  wave2 : s.value SlotNo.osc2Waveshape = t.value SlotNo.osc2Waveshape
  mix : s.value SlotNo.oscMix = t.value SlotNo.oscMix
  morphRate : s.value SlotNo.morphRate = t.value SlotNo.morphRate
  phase1 : s.osc1.phase = t.osc1.phase
  phase2 : s.osc2.phase = t.osc2.phase
  gen1 : s.gen1 = t.gen1
  gen2 : s.gen2 = t.gen2
  lpOut : s.lpOut = t.lpOut

end Sys2Proof.Machine
end

