-- ==== Sys2Proof/Certificates/Slice0/Obligations.lean ====
section
/-! DEFINITION. The statements for the provers. The frames are written as `t = { s with … }`: every field not named there is as it
was. -/

open Sys2Proof Sys2Proof.Machine

/-! ## Encodings -/

/-- Decoding the code of a well-formed operation gives it back (spec/30_encoding.md; assumption log 6, 13, 14).
Rests on the spec's own decisions D4, D5, D37 (assumption log 18). -/
def Obligations.DecodeOfEncodeIsTheInstruction : Prop :=
  ∀ i : Instr, i.wellFormed = true → decode (encode i) = .ok i

/-- What the decoder answers is well formed: the clamps are in the decoder (R102) and the LFO has no raw or hard-sync square.
Rests on the spec's own decisions D5, D37 (assumption log 18). -/
def Obligations.DecodedInstructionsAreWellFormed : Prop :=
  ∀ (c : Code) (i : Instr), decode c = .ok i → i.wellFormed = true

/-- Words written out in spec/95_test_vectors.md decode to the operations they stand for.
Rests on the spec's own decisions D4, D37 (assumption log 18). -/
def Obligations.WrittenEventWordsDecode : Prop :=
  decode (.event 0x043C64) = .ok (.noteOn 60 100) ∧
  decode (.event 0x04C8C8) = .ok (.noteOn 127 127) ∧
  decode (.event 0x060FC8) = .ok (.controlChange 15 200) ∧
  decode (.event 0x08FF07) = .ok (.knob 31 7) ∧
  decode (.event 0x0A00FE) = .ok (.busReady false) ∧
  decode (.wave .lfo 0x4) = .ok (.wSquare .lfo) ∧
  decode (.wave .osc2 0x4) = .ok (.wRawSquare .osc2) ∧
  decode (.job 3) = .ok .jobLfo

/-- Operands are unsigned and clamped by `min`, and a field an operation does not use is ignored (R102); BUS_READY's level is bit
0 of `b` (R105, R288). The operation codes rest on the spec's own decision D37 (assumption log 18). -/
def Obligations.OperandsAreClampedAndUnusedFieldsIgnored : Prop :=
  ∀ a b : Byte,
    (∀ op : Byte, op ∈ [0x00#8, 0x01#8, 0x02#8, 0x03#8, 0x09#8] →
      decode (.event (eventWord op a b)) = decode (.event (eventWord op 0 0))) ∧
    (∃ n v : Byte, decode (.event (eventWord 0x04 a b)) = .ok (.noteOn n v) ∧
      n.toNat = min a.toNat 127 ∧ v.toNat = min b.toNat 127) ∧
    (∃ n : Byte, decode (.event (eventWord 0x05 a b)) = .ok (.noteOff n) ∧ n.toNat = min a.toNat 127) ∧
    (∃ p : Byte, decode (.event (eventWord 0x06 a b)) = .ok (.controlChange p b) ∧ p.toNat = min a.toNat 31) ∧
    decode (.event (eventWord 0x07 a b)) = .ok (.pitchBend b) ∧
    (∃ p : Byte, decode (.event (eventWord 0x08 a b)) = .ok (.knob p b) ∧ p.toNat = min a.toNat 31) ∧
    decode (.event (eventWord 0x0A a b)) = .ok (.busReady (decide (b.toNat % 2 = 1)))

/-- R103: a word decodes to an operation of a row exactly when the row's mask and match select it.
Rests on the spec's own decision D37 (assumption log 18). -/
def Obligations.EventWordsSelectRowsByMask : Prop :=
  ∀ (w : EventWord) (j : Instr), j.row.format = .ev →
    (w.toNat &&& j.row.mask = j.row.pattern ↔ ∃ i, decode (.event w) = .ok i ∧ i.row = j.row)

/-- U1: the decoder refuses, by name, every reserved code 0x0B to 0xFF, whatever the operands, and no other (assumption log 8).
Rests on the spec's own decision D37 (assumption log 18). -/
def Obligations.ReservedOpsAreRejectedByTheDecoder : Prop :=
  ∀ op a b : Byte,
    (0x0B ≤ op.toNat → decode (.event (eventWord op a b)) = .error (.reservedOp op)) ∧
    (op.toNat < 0x0B → ∃ i, decode (.event (eventWord op a b)) = .ok i)

/-- R106, R107, R108: the waveform id is bits 7:4 of the owner's waveshape slot; its number is the row's, but the LFO's ids 4 and
5 evaluate id 3; the job code's number is the row's.
Rests on the spec's own decisions D4, D5 (assumption log 18). -/
def Obligations.SelectorCodesDecodeByNumber : Prop :=
  (∀ (s : State) (g : Gen), (waveIdField s g).toNat = (s.value (waveshapeSlot g)).toNat / 16) ∧
  (∀ (g : Gen) (id : BitVec 4), ∃ i, decode (.wave g id) = .ok i ∧ i.row.format = .wid ∧
    i.row.pattern = if g = .lfo ∧ (id.toNat = 4 ∨ id.toNat = 5) then 3 else id.toNat) ∧
  (∀ code : BitVec 2, ∃ i, decode (.job code) = .ok i ∧ i.row.format = .job ∧ i.row.pattern = code.toNat)

/-! ## Steps -/

/-- When the next event word decodes to an operation, a step is exec of it, on the state with the word taken and nothing yet
emitted.
How a word reaches the engine, and the list of requests that each operation begins empty, are the model's choices (assumption
log 3, 4, 6). -/
def Obligations.StepPerformsTheDecodedEvent : Prop :=
  ∀ (s : State) (w : EventWord) (rest : List EventWord) (i : Instr),
    s.inbox = w :: rest → decode (.event w) = .ok i → step s = exec i { s with inbox := rest, emitted := [] }

/-- Every operation is total, for every state and every operand, and so is a step; there is no fault (R300). Beyond R300's 11
operations it rests on the model's choices: the selector rows as operations and the ill-formed LFO squares (assumption log 6,
14), a step with no word to take (log 3), and, with the spec's own decision D37, a reserved word that acts as NOP (log 8). -/
def Obligations.EveryOperationCompletes : Prop :=
  (∀ (i : Instr) (s : State), ∃ t, exec i s = .next t) ∧ (∀ s : State, ∃ t, step s = .next t) ∧ ∀ _ : Fault, False

/-- AUDIO_TICK, while a note sounds, is: the sync take and the phase advance, exec of the waveform operation decoded from each
oscillator's waveshape slot, oscillator 0 first, then the mix.
Rests on the spec's own decision D6 and on the model's reading of a waveform row as an operation (assumption log 6, 18). -/
def Obligations.AudioTickRunsTheSelectedWaveformOperations : Prop :=
  ∀ s : State, s.noteOn = true →
    ∃ (i j : Instr) (u v : State),
      decode (.wave .osc1 (waveIdField s .osc1)) = .ok i ∧ exec i (advancePhases (audioSyncTake s)) = .next u ∧
      decode (.wave .osc2 (waveIdField s .osc2)) = .ok j ∧ exec j u = .next v ∧
      exec .audioTick s = .next (audioMix v)

/-- MAIN_STEP consumes the pending flag, runs the amplitude step, then exec of the job operation `rr_state` selects, then
advances `rr_state`; with no tick pending it changes nothing (R133). That a job row is an operation run by exec is the model's
choice (assumption log 6); that debouncing and MIDI intake change nothing here is the spec's own decision D46 (log 16, 18). -/
def Obligations.MainStepRunsAmplitudeThenTheSelectedJob : Prop :=
  ∀ s : State,
    if s.slowPending = true then
      ∃ (j : Instr) (t : State), decode (.job (jobCode s.rrState)) = .ok j ∧
        j = (match s.rrState with
          | .filter => .jobFilter
          | .knob => .jobKnob
          | .pitch => .jobPitch
          | .lfo => .jobLfo) ∧
        exec j (amplitudeStep Config.tables { s with slowPending := false }) = .next t ∧
        exec .mainStep s = .next { t with rrState := nextJob t.rrState } ∧ t.rrState = s.rrState
    else exec .mainStep s = .next s

/-! ## Scheduler -/

/-- R131: the effect of AUDIO_TICK on every state.
Rests on the spec's own decisions D6, D14 to D17 (assumption log 18). -/
def Obligations.AudioTickProducesOneSample : Prop :=
  ∀ s : State, ∃ t, exec .audioTick s = .next t ∧
    if s.noteOn = true then
      let p1 : Nat := if s.sync.oscillator then 0 else s.osc1.phase.toNat
      let p2 : Nat := if s.sync.oscillator then 0 else s.osc2.phase.toNat
      let r1 := wave Config.tables (decodeWaveId (BitVec.ofNat 4 ((s.value SlotNo.osc1Waveshape).toNat / 16))) s.gen1
        t.osc1.phase s.osc1.noteIndex (s.value SlotNo.morphRate)
      let r2 := wave Config.tables (decodeWaveId (BitVec.ofNat 4 ((s.value SlotNo.osc2Waveshape).toNat / 16))) s.gen2
        t.osc2.phase s.osc2.noteIndex (s.value SlotNo.morphRate)
      let mix : Int := (s.value SlotNo.oscMix).toNat
      let mixed : Int := (r1.2.toNat * (256 - mix) + r2.2.toNat * mix) / 256
      t.osc1.phase.toNat = (p1 + s.osc1.noteFrequency.toNat) % 65536 ∧
      t.osc2.phase.toNat = (p2 + s.osc2.noteFrequency.toNat) % 65536 ∧
      (t.lpOut.toNat : Int) = s.lpOut.toNat + (mixed - s.lpOut.toNat) / 4 ∧
      t = { s with
        sync.oscillator := false
        osc1.phase := t.osc1.phase
        osc2.phase := t.osc2.phase
        gen1 := r1.1
        gen2 := r2.1
        samples.osc1 := r1.2
        samples.osc2 := r2.2
        lpOut := t.lpOut
        audioOut := t.lpOut }
    else t = { s with audioOut := 128, lpOut := 128, osc1.phase := 0, osc2.phase := 0 }

/-- R137: the mixer's formula, its range and its corners.
Rests on the spec's own decision D14 (assumption log 18). -/
def Obligations.MixerCrossFadesWithoutSaturation : Prop :=
  ∀ a b m : Byte,
    (mixSamples a b m).toNat = (a.toNat * (256 - m.toNat) + b.toNat * m.toNat) / 256 ∧
    (m = 0 → mixSamples a b m = a) ∧
    (m = 255 → (mixSamples a b m).toNat = if b.toNat ≤ a.toNat then b.toNat else b.toNat - 1)

/-- R138: the smoothing filter stays between its old value and the mix, falls by at least 1 while above it, and rests while the
mix is at most 3 above.
Rests on the spec's own decision D15 (assumption log 18). -/
def Obligations.SmoothingMovesTowardTheMix : Prop :=
  ∀ lp m : Byte,
    ((smooth lp m).toNat : Int) = lp.toNat + ((m.toNat : Int) - lp.toNat) / 4 ∧
    min lp.toNat m.toNat ≤ (smooth lp m).toNat ∧ (smooth lp m).toNat ≤ max lp.toNat m.toNat ∧
    (m.toNat < lp.toNat → (smooth lp m).toNat < lp.toNat) ∧
    (lp.toNat ≤ m.toNat ∧ m.toNat ≤ lp.toNat + 3 → smooth lp m = lp)

/-- R132: SLOW_TICK.
Rests on the spec's own decision D39 (assumption log 18). -/
def Obligations.SlowTickSetsPendingOrOverrun : Prop :=
  ∀ s : State, exec .slowTick s =
    .next { s with slowPending := true, overrun := if s.slowPending then true else s.overrun }

/-- `k` consumed slow ticks advance `rr_state` by `k`; of any four successive values each job is exactly one, in rotation order;
nothing but MAIN_STEP and RESET writes `rr_state` (R134). That the selected job runs is MainStepRunsAmplitudeThenTheSelectedJob.
The list of words that is consumed, and MAIN_STEP as one of them, are the model's choices (assumption log 3, 15).
The spec marks this as its own inference, from R133 (assumption log 18). -/
def Obligations.RoundRobinSelectsEachJobOnceInFourConsumedTicks : Prop :=
  (∀ (k : Nat) (s : State) (rest : List EventWord), s.inbox = traceTicks k ++ rest →
    ∃ t, Host.Core.run Sys2Proof.core (2 * k) s = .next t ∧ t.inbox = rest ∧
      t.rrState = Nat.iterate nextJob k s.rrState) ∧
  (∀ j k : Job, ([j, nextJob j, nextJob (nextJob j), nextJob (nextJob (nextJob j))].count k = 1)) ∧
  (nextJob .filter = .knob ∧ nextJob .knob = .pitch ∧ nextJob .pitch = .lfo ∧ nextJob .lfo = .filter) ∧
  (∀ (i : Instr) (s t : State), i ≠ .mainStep → i ≠ .reset → exec i s = .next t → t.rrState = s.rrState)

/-- Two slow ticks before the main loop runs are one main step, and `overrun` says so.
Rests on the spec's own decision D39 (assumption log 18). -/
def Obligations.MissedSlowTickIsMergedAndRecorded : Prop :=
  ∀ (s : State) (rest : List EventWord), s.inbox = 0x020000 :: 0x020000 :: 0x030000 :: 0x030000 :: rest →
    ∃ t, Host.Core.run Sys2Proof.core 4 s = .next t ∧ t.inbox = rest ∧ t.overrun = true ∧ t.slowPending = false ∧
      t.rrState = nextJob s.rrState

/-! ## Waveforms -/

/-- W_SINE: linear interpolation between adjacent entries, the entry after 255 being entry 0; no state but the owner's sample.
Rests on the spec's own decision D8 (assumption log 18). -/
def Obligations.SineInterpolatesBetweenAdjacentEntries : Prop :=
  ∀ (g : Gen) (s : State), ∃ t, exec (.wSine g) s = .next t ∧ t = s.setSample g (t.sample g) ∧
    let ph := (wavePhase s g).toNat
    let a : Int := (Config.tables.sine (BitVec.ofNat 8 (ph / 256))).toNat
    let b : Int := (Config.tables.sine (BitVec.ofNat 8 ((ph / 256 + 1) % 256))).toNat
    ((t.sample g).toNat : Int) = a + ((b - a) * (ph % 256 : Nat)) / 256 ∧
    min a b ≤ (t.sample g).toNat ∧ ((t.sample g).toNat : Int) ≤ max a b

/-- R153, R154: W_RAMP and W_TRIANGLE blend the note's band with the band below or above, clamped to 0..31, by the note's place in
its band.
Rests on the spec's own decision D7 (assumption log 18). -/
def Obligations.RampAndTriangleBlendNeighbourBands : Prop :=
  ∀ (g : Gen) (s : State), ∃ t u, exec (.wRamp g) s = .next t ∧ exec (.wTriangle g) s = .next u ∧
    t = s.setSample g (t.sample g) ∧ u = s.setSample g (u.sample g) ∧
    let i : Byte := BitVec.ofNat 8 ((wavePhase s g).toNat / 256)
    let n := (waveNoteRate s g).toNat
    let b := n / 4
    ∀ (T : BitVec 5 → Byte → Byte) (out : Byte),
      (T = Config.tables.rampBank ∧ out = t.sample g) ∨ (T = Config.tables.triBank ∧ out = u.sample g) →
      let own := (T (BitVec.ofNat 5 b) i).toNat
      let lo := (T (BitVec.ofNat 5 (b - 1)) i).toNat
      let hi := (T (BitVec.ofNat 5 (min (b + 1) 31)) i).toNat
      out.toNat =
        if n % 4 = 0 then (lo + own) / 2
        else if n % 4 = 1 then (3 * own + lo) / 4
        else if n % 4 = 2 then (3 * own + hi) / 4
        else (own + hi) / 2

/-- W_SQUARE: the recentred, saturated difference of two ramp lookups half a cycle apart.
Rests on the spec's own decision D9 (assumption log 18). -/
def Obligations.SquareIsTheSaturatedRampDifference : Prop :=
  ∀ (g : Gen) (s : State), ∃ t, exec (.wSquare g) s = .next t ∧ t = s.setSample g (t.sample g) ∧
    let r1 : Int := (rampWave Config.tables (wavePhase s g) (waveNoteRate s g)).toNat
    let r2 : Int := (rampWave Config.tables (BitVec.ofNat 16 ((wavePhase s g).toNat + 0x8000)) (waveNoteRate s g)).toNat
    ((t.sample g).toNat : Int) = max 0 (min 255 (r1 - r2 + 128))

/-- W_RAW_SQUARE and W_SYNC_SQUARE: plain table lookups at the phase's index; no other state.
Rests on the spec's own decision D10 (assumption log 18); for the LFO as owner, which no code yields, it is the model's choice
(assumption log 14). -/
def Obligations.RawAndSyncSquareReadTheirTables : Prop :=
  ∀ (g : Gen) (s : State),
    exec (.wRawSquare g) s =
      .next (s.setSample g (Config.tables.rawSq (BitVec.ofNat 8 ((wavePhase s g).toNat / 256)))) ∧
    exec (.wSyncSquare g) s =
      .next (s.setSample g (Config.tables.syncSq (BitVec.ofNat 8 ((wavePhase s g).toNat / 256))))

/-- W_NOISE: the owner's register shifts left, the sum of bits 15, 13, 12, 10 modulo 2 enters at bit 0, and the low byte is the
sample.
Rests on the spec's own decision D11 (assumption log 18). -/
def Obligations.NoiseStepsItsOwnersRegister : Prop :=
  ∀ (g : Gen) (s : State), ∃ t, exec (.wNoise g) s = .next t ∧
    let r := (s.gen g).lfsr.toNat
    let r' := (t.gen g).lfsr.toNat
    r' = (2 * r + (r / 32768 + r / 8192 + r / 4096 + r / 1024) % 2) % 65536 ∧
    (t.sample g).toNat = r' % 256 ∧
    t = (s.setGen g { s.gen g with lfsr := (t.gen g).lfsr }).setSample g (t.sample g)

/-- R163 to R169, and the two sketched ids: each morph operation steps its owner's index and timer, then evaluates its recipe at
the owner's phase, note-rate and new index; the noise register and all else hold.
Rests on the spec's own decisions D12, D13, D50 (assumption log 18). -/
def Obligations.MorphOperationsStepThenEvaluateTheirRecipe : Prop :=
  ∀ (k : Fin 9) (op : Gen → Instr) (g : Gen) (s : State),
    (k, op) ∈ [((0 : Fin 9), Instr.wMorph0), (1, Instr.wMorph1), (2, Instr.wMorph2), (3, Instr.wMorph3),
      (4, Instr.wMorph4), (5, Instr.wMorph5), (6, Instr.wMorph6), (7, Instr.wMorph7), (8, Instr.wMorph8)] →
    let old := s.gen g
    let reload : Byte := if g = .lfo then s.value SlotNo.lfoMorphRate else s.value SlotNo.morphRate
    let timer : Nat := if old.morphTimer.toNat = 0 then reload.toNat else old.morphTimer.toNat - 1
    let index : Nat := if old.morphTimer.toNat = 0 then (old.morphIndex.toNat + 1) % 256 else old.morphIndex.toNat
    exec (op g) s = .next
      ((s.setGen g ⟨BitVec.ofNat 8 index, BitVec.ofNat 8 timer, old.lfsr⟩).setSample g
        (Config.tables.morphFn k (wavePhase s g) (waveNoteRate s g) (BitVec.ofNat 8 index)))

/-! ## Amplitude envelope -/

/-- R210, R211, R212: the amplitude step is the take of `amplitude_sync`, then, while a note sounds, the forced Release and the
stage rules, then the VCA write. The take arms Attack with the velocity-scaled ceiling and leaves the level; a released key then
forces Release; and the step goes on from there as it would from the state so armed or forced.
Rests on the spec's own decisions D24, D26 (assumption log 18). -/
def Obligations.SyncArmsAttackAndKeyReleaseForcesRelease : Prop :=
  (∀ s : State, s.sync.amplitude = true →
    47 ≤ (ampCeiling s.velocity).toNat ∧ (ampCeiling s.velocity).toNat ≤ 253 ∧
    (ampCeiling s.velocity).toNat = (s.velocity.toNat * 416) / 256 + 47 ∧
    ampSyncTake s = { s with
      sync.amplitude := false
      amp.phase := .attack
      amp.timer := 0
      amp.ceiling := ampCeiling s.velocity }) ∧
  (∀ s : State, s.sync.amplitude = false → ampSyncTake s = s) ∧
  (∀ s : State, ampForceRelease s =
    if s.keyDown = false ∧ s.amp.phase ≠ .release then { s with amp.phase := .release, amp.timer := 0 } else s) ∧
  (∀ s : State, amplitudeStep Config.tables s =
    vcaWrite
      (if s.noteOn = true then ampAdvance Config.tables (ampForceRelease (ampSyncTake s)) else ampSyncTake s)) ∧
  (∀ s : State, s.sync.amplitude = true →
    amplitudeStep Config.tables s = amplitudeStep Config.tables { s with
      sync.amplitude := false
      amp.phase := .attack
      amp.timer := 0
      amp.ceiling := ampCeiling s.velocity }) ∧
  (∀ s : State, s.noteOn = true → s.keyDown = false → s.sync.amplitude = false → s.amp.phase ≠ .release →
    amplitudeStep Config.tables s =
      amplitudeStep Config.tables { s with amp.phase := .release, amp.timer := 0 })

/-- The amplitude step in Attack with the key held and the timer expired: the level rises by the table's step, capped at the
ceiling; reaching it enters Decay and captures the sustain target.
Rests on the spec's own decisions D24, D25, D26 (assumption log 18). -/
def Obligations.AttackRisesToTheCeilingThenDecays : Prop :=
  ∀ s : State, s.noteOn = true → s.keyDown = true → s.sync.amplitude = false → s.amp.phase = .attack → s.amp.timer = 0 →
    let t := amplitudeStep Config.tables s
    let st := (Config.tables.envRate (s.value SlotNo.ampAttack)).2.units
    let level := s.adsrMultiplier.toNat
    let top := s.amp.ceiling.toNat
    t.adsrMultiplier.toNat = (if level < top then min (level + st) top else level) ∧
    t.amp.timer = (Config.tables.envRate (s.value SlotNo.ampAttack)).1 ∧
    (if top ≤ t.adsrMultiplier.toNat then
      t.amp.phase = .decay ∧
      (47 ≤ top → t.amp.sustain.toNat = (s.value SlotNo.ampSustain).toNat * (top - 47) / 256 + 47)
    else t.amp.phase = .attack ∧ t.amp.sustain = s.amp.sustain) ∧
    t = { s with adsrMultiplier := t.adsrMultiplier, amp := t.amp, vcaOut := t.vcaOut } ∧
    t.amp.ceiling = s.amp.ceiling

/-- The amplitude step in Decay and in Release with the timer expired: the level falls by the table's step, not below the sustain
target or the floor; reaching it enters Sustain, or ends the note.
Rests on the spec's own decisions D24, D25, D26 (assumption log 18). -/
def Obligations.DecayAndReleaseFallToTheirTargets : Prop :=
  (∀ s : State, s.noteOn = true → s.keyDown = true → s.sync.amplitude = false → s.amp.phase = .decay → s.amp.timer = 0 →
    let t := amplitudeStep Config.tables s
    let r := Config.tables.envRate (s.value SlotNo.ampDecay)
    t.adsrMultiplier.toNat = max (s.adsrMultiplier.toNat - r.2.units) s.amp.sustain.toNat ∧
    t = { s with
      adsrMultiplier := t.adsrMultiplier
      vcaOut := t.vcaOut
      amp.timer := r.1
      amp.phase := if t.adsrMultiplier.toNat ≤ s.amp.sustain.toNat then .sustain else .decay }) ∧
  (∀ s : State, s.noteOn = true → s.sync.amplitude = false → s.amp.phase = .release → s.amp.timer = 0 →
    let t := amplitudeStep Config.tables s
    let r := Config.tables.envRate (s.value SlotNo.ampRelease)
    t.adsrMultiplier.toNat = max (s.adsrMultiplier.toNat - r.2.units) 47 ∧
    t = { s with
      adsrMultiplier := t.adsrMultiplier
      vcaOut := t.vcaOut
      amp.timer := r.1
      amp.phase := if t.adsrMultiplier.toNat = 47 then .attack else .release
      noteOn := if t.adsrMultiplier.toNat = 47 then false else true })

/-- The timer gate, Sustain and idle: a running timer, of a held key's stage or of Release, is only decremented; Sustain with
the key held, and idle, change nothing but the VCA output.
Rests on the spec's own decision D25 (assumption log 18). -/
def Obligations.TimerGateSustainAndIdleHoldTheLevel : Prop :=
  (∀ s : State, s.noteOn = true → (s.keyDown = true ∨ s.amp.phase = .release) → s.sync.amplitude = false →
    s.amp.phase ≠ .sustain → s.amp.timer ≠ 0 → ∃ v, amplitudeStep Config.tables s =
      { s with amp.timer := BitVec.ofNat 8 (s.amp.timer.toNat - 1), vcaOut := v }) ∧
  (∀ s : State, s.noteOn = true → s.keyDown = true → s.sync.amplitude = false → s.amp.phase = .sustain →
    ∃ v, amplitudeStep Config.tables s = { s with vcaOut := v }) ∧
  (∀ s : State, s.noteOn = false → s.sync.amplitude = false →
    ∃ v, amplitudeStep Config.tables s = { s with vcaOut := v })

/-- R219: every amplitude step writes the VCA output from the level it leaves, scaled by the AMPLITUDE slot, not below the floor;
it is in 47..254.
Rests on the spec's own decisions D24, D27 (assumption log 18). -/
def Obligations.VcaOutputIsScaledAndFloored : Prop :=
  ∀ s : State,
    let t := amplitudeStep Config.tables s
    t.vcaOut.toNat = max (t.adsrMultiplier.toNat * (s.value SlotNo.amplitude).toNat / 256) 47 ∧ t.vcaOut.toNat ≤ 254

/-- Under the invariant the level changes by at most 4 in one amplitude step.
The spec marks this as its own inference, from R213 to R217 (assumption log 18). -/
def Obligations.AmplitudeLevelMovesByAtMostFour : Prop :=
  ∀ s : State, AmpSafe s →
    (amplitudeStep Config.tables s).adsrMultiplier.toNat ≤ s.adsrMultiplier.toNat + 4 ∧
    s.adsrMultiplier.toNat ≤ (amplitudeStep Config.tables s).adsrMultiplier.toNat + 4

/-- Every step keeps the amplitude envelope's invariants: the floor, the ceilings, the idle condition, the held sustain level.
The spec marks this as its own inference, from R210 to R218 (assumption log 18). -/
def Obligations.EveryStepKeepsTheAmplitudeInvariant : Prop :=
  ∀ s t : State, AmpSafe s → step s = .next t → AmpSafe t

/-! ## Filter envelope and bus -/

/-- R232, R233: the sync take re-arms Attack from the current adder and step, and does nothing with the flag clear; a released
key forces a full Release from the current adder, and nothing is forced while the envelope is idle, the key is held or the stage
is Release already.
Rests on the spec's own decision D29 (assumption log 18). -/
def Obligations.FilterArmsFromTheCurrentAdder : Prop :=
  (∀ s : State, s.sync.filter = true → FilterSafe s.flt →
    let t := fltSyncTake s
    let peak : Int := ((s.value SlotNo.filterEnvAmount).toNat - 128) * 256
    t = { s with sync.filter := false, flt := t.flt } ∧
    t.flt = { s.flt with
      active := true, phase := .attack, timer := 0, peak := t.flt.peak, target := t.flt.target, slope := t.flt.slope } ∧
    t.flt.peak.toInt = peak ∧ t.flt.target.toInt = peak ∧
    t.flt.slope.toInt = (peak - s.flt.adder.toInt).tdiv (128 - s.flt.step.toNat)) ∧
  (∀ s : State, s.flt.active = true → s.keyDown = false → s.flt.phase ≠ .release → FilterSafe s.flt →
    let t := fltForceRelease s
    t = { s with
      flt.phase := .release, flt.step := 0, flt.target := 0, flt.timer := 0, flt.slope := t.flt.slope } ∧
    t.flt.slope.toInt = (-s.flt.adder.toInt).tdiv 128) ∧
  (∀ s : State, s.sync.filter = false → fltSyncTake s = s) ∧
  (∀ s : State, s.flt.active = false ∨ s.keyDown = true ∨ s.flt.phase = .release → fltForceRelease s = s)

/-- R235: a step before the last of a stage counts it and adds the slope, and writes nothing else; the target is reached in
exactly the number of remaining steps, by equal slopes and an exact arrival, and the stage then ends.
The spec marks the arrival as its own inference, from R232 to R234 (assumption log 18). -/
def Obligations.FilterStageReachesItsTargetExactly : Prop :=
  (∀ s : State, s.flt.step.toNat < 127 →
    let t := fltStepOnce s
    t = { s with flt.step := BitVec.ofNat 7 (s.flt.step.toNat + 1), flt.adder := t.flt.adder } ∧
    (FilterSafe s.flt → s.flt.active = true → s.flt.phase ≠ .sustain →
      t.flt.adder.toInt = s.flt.adder.toInt + s.flt.slope.toInt)) ∧
  ∀ s : State, FilterSafe s.flt → s.flt.active = true → s.flt.phase ≠ .sustain →
    (∀ k : Nat, k < 128 - s.flt.step.toNat →
      let t := Nat.iterate fltStepOnce k s
      t.flt.adder.toInt = s.flt.adder.toInt + k * s.flt.slope.toInt ∧ t.flt.step.toNat = s.flt.step.toNat + k ∧
      t.flt.phase = s.flt.phase ∧
      min s.flt.adder.toInt s.flt.target.toInt ≤ t.flt.adder.toInt ∧
      t.flt.adder.toInt ≤ max s.flt.adder.toInt s.flt.target.toInt) ∧
    (let t := Nat.iterate fltStepOnce (128 - s.flt.step.toNat) s
     t.flt.adder = s.flt.target ∧ t.flt.step = 0 ∧
     t.flt.phase = match s.flt.phase with
       | .attack => .decay
       | .decay => .sustain
       | .sustain => .sustain
       | .release => .attack)

/-- The end of each stage: Attack enters Decay toward the sustain fraction of the peak, Decay enters Sustain, Release goes
idle without touching `note_on`.
Rests on the spec's own decision D29 (assumption log 18). -/
def Obligations.FilterStageEndsFollowTheTable : Prop :=
  ∀ s : State, FilterSafe s.flt → s.flt.active = true → s.flt.step = 127 →
    (s.flt.phase = .attack →
      let t := fltStepOnce s
      let target : Int := (s.flt.peak.toInt * (s.value SlotNo.filterSustain).toNat) / 256
      t = { s with
        flt.phase := .decay, flt.step := 0, flt.adder := s.flt.target, flt.target := t.flt.target, flt.slope := t.flt.slope } ∧
      t.flt.target.toInt = target ∧ t.flt.slope.toInt = (target - s.flt.target.toInt).tdiv 128) ∧
    (s.flt.phase = .decay →
      fltStepOnce s = { s with flt.adder := s.flt.target, flt.step := 0, flt.phase := .sustain }) ∧
    (s.flt.phase = .release →
      fltStepOnce s =
        { s with flt.adder := s.flt.target, flt.step := 0, flt.phase := .attack, flt.active := false })

/-- JOB_FILTER (R230): the sync take, the forced Release, the advance of the envelope, then the combined cutoff saturated to
0..255, then one state of the bus sequencer, which emits at most one request; nothing else is written. The advance (R234, R236):
idle and Sustain hold; a running timer is only decremented; an expired one is reloaded from the stage's own rate slot and one
step is taken.
Rests on the spec's own decisions D28, D29, D30 (assumption log 18). -/
def Obligations.FilterJobWritesCutoffAndOneBusState : Prop :=
  (∀ s : State, ∃ t, exec .jobFilter s = .next t ∧
    let u := fltAdvance Config.tables (fltForceRelease (fltSyncTake s))
    (t.flt.cutoff.toNat : Int) =
      max 0 (min 255 ((s.value SlotNo.filterCutoff).toNat + u.flt.adder.toInt / 128)) ∧
    t = busStep Config.tables { u with flt.cutoff := t.flt.cutoff } ∧
    t.flt = { u.flt with cutoff := t.flt.cutoff } ∧
    t.bus.state = nextBusState s.bus.state ∧ t.bus.ready = s.bus.ready ∧
    (t.emitted = s.emitted ∨ ∃ r, t.emitted = s.emitted ++ [r]) ∧
    t = { s with sync.filter := false, flt := t.flt, bus := t.bus, emitted := t.emitted }) ∧
  (∀ s : State, s.flt.active = false ∨ s.flt.phase = .sustain → fltAdvance Config.tables s = s) ∧
  (∀ s : State, s.flt.active = true → s.flt.phase ≠ .sustain → s.flt.timer ≠ 0 →
    fltAdvance Config.tables s = { s with flt.timer := BitVec.ofNat 8 (s.flt.timer.toNat - 1) }) ∧
  (∀ (s : State) (p : Slot), s.flt.active = true → s.flt.timer = 0 →
    (s.flt.phase = .attack ∧ p = SlotNo.filterAttack) ∨ (s.flt.phase = .decay ∧ p = SlotNo.filterDecay) ∨
      (s.flt.phase = .release ∧ p = SlotNo.filterRelease) →
    fltAdvance Config.tables s = fltStepOnce { s with flt.timer := Config.tables.fltRate (s.value p) })

/-- The bus sequencer state by state: what is compared, emitted and remembered, and what a write refused for readiness or for
being unchanged leaves.
Rests on the spec's own decisions D30, D31, D49 (assumption log 18). -/
def Obligations.BusSequencerSkipsUnchangedAndUnreadyWrites : Prop :=
  ∀ s : State,
    let t := busStep Config.tables s
    let v := antilog Config.tables s.flt.cutoff
    let q := s.value SlotNo.filterQ
    (s.bus.state = .f1 → t =
      if s.bus.ready = true ∧ v.toNat ≠ s.bus.lastF1.toNat then
        { s with bus.latch := v, bus.lastF1 := v.setWidth 9, bus.state := .f2, emitted := s.emitted ++ [⟨.freq1, v⟩] }
      else { s with bus.latch := v, bus.state := .f2 }) ∧
    (s.bus.state = .f2 → t =
      if s.bus.ready = true ∧ s.bus.latch.toNat ≠ s.bus.lastF2.toNat then
        { s with
          bus.lastF2 := s.bus.latch.setWidth 9
          bus.state := .res
          emitted := s.emitted ++ [⟨.freq2, s.bus.latch⟩] }
      else { s with bus.state := .res }) ∧
    (s.bus.state = .res → t =
      if s.bus.ready = true ∧ q.toNat ≠ s.bus.lastQ.toNat then
        { s with bus.lastQ := q.setWidth 9, bus.state := .wait, emitted := s.emitted ++ [⟨.resonance, q⟩] }
      else { s with bus.state := .wait }) ∧
    (s.bus.state = .wait → t = { s with bus.state := .f1 })

/-- R241: the antilog curve never falls and stays between the first and the last breakpoint, whatever the OPEN breakpoints. That
the breakpoints never fall is R6's constraint, which the model's reading of the table builds in (assumption log 2).
Rests on the spec's own decision D31 (assumption log 18). -/
def Obligations.AntilogIsMonotone : Prop :=
  (∀ x : Byte,
    let a : Int := (antilogBreak Config.tables (Fin.ofNat 9 (x.toNat / 32))).toNat
    let b : Int := (antilogBreak Config.tables (Fin.ofNat 9 (x.toNat / 32 + 1))).toNat
    ((antilog Config.tables x).toNat : Int) = a + ((b - a) * (x.toNat % 32 : Nat)) / 32) ∧
  (∀ x y : Byte, x.toNat ≤ y.toNat →
    (antilog Config.tables x).toNat ≤ (antilog Config.tables y).toNat) ∧
  (∀ x : Byte, (antilogBreak Config.tables 0).toNat ≤ (antilog Config.tables x).toNat ∧
    (antilog Config.tables x).toNat ≤ (antilogBreak Config.tables 8).toNat) ∧
  (∀ i j : Fin 9, i ≤ j → (antilogBreak Config.tables i).toNat ≤ (antilogBreak Config.tables j).toNat)

/-- Resonance is never starved: with the bus ready, four filter jobs leave the resonance pot holding FILTER_Q.
The spec marks this as its own inference, from R242 and R134 (assumption log 18). -/
def Obligations.ResonanceIsServedWithinFourFilterJobs : Prop :=
  ∀ s a b c d : State, s.bus.ready = true → exec .jobFilter s = .next a → exec .jobFilter a = .next b →
    exec .jobFilter b = .next c → exec .jobFilter c = .next d →
    d.bus.lastQ = (s.value SlotNo.filterQ).setWidth 9 ∧ d.bus.state = s.bus.state

/-- Every step keeps the filter envelope's invariants: the ranges of peak, target and adder, the idle and held conditions, and the
slope that never passes the target.
The spec marks this as its own inference, from R231 to R238 (assumption log 18). -/
def Obligations.EveryStepKeepsTheFilterInvariant : Prop :=
  ∀ s t : State, FilterSafe s.flt → step s = .next t → FilterSafe t.flt

/-! ## Pitch and glide -/

/-- JOB_PITCH: the detune (R191), the bookkeeping (R200) on every path, and its frame: the phases and the first note hold, and
nothing outside the two oscillators' registers and `g_last_ps` is written (R190). What becomes of the oscillators' frequency and
glide registers is BypassIsTheDirectTableLookup and GlideRetargetsOnChangeThenSteps.
Rests on the spec's own decisions D18, D19 (assumption log 18). -/
def Obligations.PitchJobDetunesAndKeepsBooks : Prop :=
  ∀ s : State, ∃ t, exec .jobPitch s = .next t ∧
    (t.osc2.noteIndex.toNat : Int) =
      max 0 (min 127 ((s.osc1.noteIndex.toNat : Int) + ((s.value SlotNo.oscDetune).toNat / 8 : Nat) - 16)) ∧
    t.osc1.noteIndex = s.osc1.noteIndex ∧
    t.lastPs.toNat = (s.value SlotNo.pitchShift).toNat / 2 ∧
    t.osc1.lastNote = t.osc1.noteIndex ∧ t.osc2.lastNote = t.osc2.noteIndex ∧
    t.osc1.phase = s.osc1.phase ∧ t.osc2.phase = s.osc2.phase ∧
    t = { s with osc1 := t.osc1, osc2 := t.osc2, lastPs := t.lastPs }

/-- R192: a quarter of the deviation from the centre, toward zero, symmetric about it.
Rests on the spec's own decision D19 (assumption log 18). -/
def Obligations.PitchShiftIsAQuarterTowardZero : Prop :=
  (∀ ps : Note, pitchShift ps = ((ps.toNat : Int) - 64).tdiv 4) ∧
  (∀ s : State, (pitchField s).toNat = (s.value SlotNo.pitchShift).toNat / 2)

/-- R196: with no bend, no LFO pitch modulation and no portamento the pitch job is the direct table lookup, independent of the
glide state before it.
Rests on the spec's own decisions D20, D23 (assumption log 18). -/
def Obligations.BypassIsTheDirectTableLookup : Prop :=
  ∀ s : State, (s.value SlotNo.pitchShift).toNat / 2 = 64 → (s.value SlotNo.portamento).toNat = 0 →
    (dest Config.tables s ≠ SlotNo.pitchShift ∨ (s.value SlotNo.lfoAmount).toNat ≤ 1) →
    ∃ t, exec .jobPitch s = .next t ∧
      (∀ o, o = t.osc1 ∨ o = t.osc2 →
        o.noteFrequency = noteFreq Config.tables o.noteIndex ∧ o.targetFreq = noteFreq Config.tables o.noteIndex ∧
        o.targetNote = o.noteIndex ∧ o.inc = 0 ∧ o.count = 0 ∧ o.total = 0)

/-- R193: glide mode is selected by LFO pitch modulation, by a pitch shift off the centre, and by a non-zero portamento, each
alone. In glide mode a changed pitch shift or note retargets both oscillators from the sounding frequency, then takes one step; with
no change it only takes the step. The registers it starts from are those before the job but for the second note, which the
detune writes (R191; its value is PitchJobDetunesAndKeepsBooks).
Rests on the spec's own decisions D20 to D23 (assumption log 18). -/
def Obligations.GlideRetargetsOnChangeThenSteps : Prop :=
  ∀ s : State,
    (dest Config.tables s = SlotNo.pitchShift ∧ 1 < (s.value SlotNo.lfoAmount).toNat) ∨
      (s.value SlotNo.pitchShift).toNat / 2 ≠ 64 ∨ (s.value SlotNo.portamento).toNat ≠ 0 →
    ∃ t, exec .jobPitch s = .next t ∧
      let u := { s with osc2.noteIndex := t.osc2.noteIndex }
      let L := if (s.value SlotNo.portamento).toNat = 0 then 7 else 5 + (s.value SlotNo.portamento).toNat / 32
      let f := fun o : OscRegs =>
        if pitchField s ≠ s.lastPs ∨ u.osc1.noteIndex ≠ s.osc1.lastNote ∨ u.osc2.noteIndex ≠ s.osc2.lastNote then
          glideStepOsc (retargetOsc Config.tables (pitchShift (pitchField s)) L o)
        else glideStepOsc o
      t.osc1 = { f u.osc1 with lastNote := u.osc1.noteIndex } ∧
      t.osc2 = { f u.osc2 with lastNote := u.osc2.noteIndex }

/-- R198 on a retarget: the increment and the step count in force, from the signed distance to the target's table frequency.
Rests on the spec's own decision D22 (assumption log 18). -/
def Obligations.RetargetFormsTheIncrement : Prop :=
  ∀ (o : OscRegs) (shift : Int) (L : Nat), L ≤ 12 →
    let t := retargetOsc Config.tables shift L o
    let delta : Int := (t.targetFreq.toNat : Int) - o.noteFrequency.toNat
    (t.targetNote.toNat : Int) = max 0 (min 127 (o.noteIndex.toNat + shift)) ∧
    t.targetFreq = noteFreq Config.tables t.targetNote ∧ t.count = 0 ∧
    (if delta.natAbs < 2 ^ L then t.inc.toInt = delta.sign ∧ t.total.toNat = delta.natAbs
     else t.inc.toInt = delta.tdiv (2 ^ L) ∧ t.total.toNat = 2 ^ L) ∧
    t = { o with
      targetNote := t.targetNote, targetFreq := t.targetFreq, inc := t.inc, count := t.count, total := t.total } ∧
    GlideSafe t

/-- R199: a glide step counts itself and writes the frequency and nothing else, and once the count is at the total it holds. The
frequency moves by the increment, never past the target, and equals it exactly after the remaining number of steps; then it
holds.
The spec marks the arrival as its own inference, from R198 (assumption log 18). -/
def Obligations.GlideReachesTheTargetExactly : Prop :=
  (∀ o : OscRegs, o.count.toNat < o.total.toNat →
    let t := glideStepOsc o
    t = { o with count := BitVec.ofNat 16 (o.count.toNat + 1), noteFrequency := t.noteFrequency } ∧
    (o.count.toNat + 1 = o.total.toNat → t.noteFrequency = o.targetFreq)) ∧
  (∀ o : OscRegs, o.total.toNat ≤ o.count.toNat → glideStepOsc o = o) ∧
  ∀ o : OscRegs, GlideSafe o →
    (∀ k : Nat, k < o.total.toNat - o.count.toNat →
      let t := Nat.iterate glideStepOsc k o
      let f := t.noteFrequency.toNat
      (f : Int) = o.noteFrequency.toNat + k * o.inc.toInt ∧
      min o.noteFrequency.toNat o.targetFreq.toNat ≤ f ∧ f ≤ max o.noteFrequency.toNat o.targetFreq.toNat ∧
      t.count.toNat = o.count.toNat + k) ∧
    (∀ k : Nat, o.total.toNat - o.count.toNat ≤ k →
      let t := Nat.iterate glideStepOsc k o
      t.noteFrequency = o.targetFreq ∧ t.count = o.total)

/-- Every step keeps the glide registers' invariant, for both oscillators.
The spec marks this as its own inference, from R198 (assumption log 18). -/
def Obligations.EveryStepKeepsTheGlideInvariant : Prop :=
  ∀ s t : State, GlideSafe s.osc1 → GlideSafe s.osc2 → step s = .next t → GlideSafe t.osc1 ∧ GlideSafe t.osc2

/-- The note-to-frequency table as it is read never falls, whatever its OPEN contents (R194); that constraint of R6 is built into
the model's reading of the table (assumption log 2). -/
def Obligations.NoteFrequencyTableIsMonotone : Prop :=
  ∀ m n : Note, m.toNat ≤ n.toNat → (noteFreq Config.tables m).toNat ≤ (noteFreq Config.tables n).toNat

/-! ## LFO -/

/-- JOB_LFO always takes `lfo_sync`; with the enable bit set a taken sync resets the phase, otherwise the phase advances by the
rate table, modulo 2^16.
Rests on the spec's own decisions D32, D33 (assumption log 18). -/
def Obligations.LfoPhaseResetsOnEnabledSyncOrAdvances : Prop :=
  ∀ s : State, ∃ t, exec .jobLfo s = .next t ∧ t.sync = { s.sync with lfo := false } ∧
    t.lfo.lastDest = dest Config.tables s ∧
    t.lfo.phase.toNat =
      if s.sync.lfo = true ∧ 128 ≤ (s.value SlotNo.lfoSync).toNat then 0
      else (s.lfo.phase.toNat +
        (Config.tables.lfoRate (BitVec.ofNat 5 ((s.value SlotNo.lfoRate).toNat / 8))).toNat) % 65536

/-- The governing source value: the override of a slot tagged External, else the raw reading; never the effective value.
Rests on the spec's own decision D34 (assumption log 18). -/
def Obligations.GoverningValueFollowsTheSourceTag : Prop :=
  ∀ (s : State) (p : Slot),
    gov s p = (if s.source p = .external then s.override p else s.rawReading p) ∧
    ∀ (q : Slot) (v : Byte), gov (s.setValue q v) p = gov s p

/-- R266: with the amount at most 1 the destination takes its governing value, AMPLITUDE 255, and no waveform is evaluated. The
amount is read after the slot just left has been given back (`v`: the effective values as they then stand).
Rests on the spec's own decisions D32, D34, D35 (assumption log 18). -/
def Obligations.LfoBypassDrivesTheDestinationFromItsSource : Prop :=
  ∀ s : State,
    let d := dest Config.tables s
    let v := fun p : Slot => if d ≠ s.lfo.lastDest ∧ p = s.lfo.lastDest then gov s p else s.value p
    (v SlotNo.lfoAmount).toNat ≤ 1 →
    ∃ t, exec .jobLfo s = .next t ∧
      t.value d = (if d = SlotNo.amplitude then 255 else gov s d) ∧ t.genLfo = s.genLfo

/-- R267, R107: above the bypass amount the destination takes its governing value plus the scaled, recentred sample, saturated;
the waveform is the LFO's own, at its new phase and note-rate 0, ids 4 and 5 evaluating id 3 (`v` as before).
Rests on the spec's own decisions D5, D32, D34, D36 (assumption log 18). -/
def Obligations.LfoModulatesTheDestination : Prop :=
  ∀ s : State,
    let d := dest Config.tables s
    let v := fun p : Slot => if d ≠ s.lfo.lastDest ∧ p = s.lfo.lastDest then gov s p else s.value p
    1 < (v SlotNo.lfoAmount).toNat →
    ∃ t, exec .jobLfo s = .next t ∧
      let id := (v SlotNo.lfoWaveshape).toNat / 16
      let w := decodeWaveId (BitVec.ofNat 4 (if id = 4 ∨ id = 5 then 3 else id))
      let r := wave Config.tables w s.genLfo t.lfo.phase 0 (v SlotNo.lfoMorphRate)
      let term : Int := (((r.2.toNat : Int) - 128) * (v SlotNo.lfoAmount).toNat) / 128
      ((t.value d).toNat : Int) = max 0 (min 255 ((gov s d).toNat + term)) ∧ t.genLfo = r.1

/-- R263, R269: JOB_LFO writes the effective value of the destination and of the slot it has just left, which is given back to its
governing source, and of no other slot; no raw reading, override or source tag; and nothing else but its own registers.
Rests on the spec's own decisions D32, D35 (assumption log 18). -/
def Obligations.LfoWritesOnlyItsSlotsAndRegisters : Prop :=
  ∀ s : State, ∃ t, exec .jobLfo s = .next t ∧
    let d := dest Config.tables s
    (d ≠ s.lfo.lastDest → t.value s.lfo.lastDest = gov s s.lfo.lastDest) ∧
    (∀ p : Slot, p ≠ d → p ≠ s.lfo.lastDest → t.value p = s.value p) ∧
    t.store = { s.store with value := t.store.value } ∧
    t = { s with
      store := t.store, sync.lfo := false, lfo := t.lfo, genLfo := t.genLfo, samples.lfo := t.samples.lfo }

/-! ## Host events -/

/-- R282: NOTE_ON with any operands. -/
def Obligations.NoteOnWritesNoteVelocityAndFlags : Prop :=
  ∀ (a b : Byte) (s : State), exec (.noteOn a b) s = .next { s with
    osc1.noteIndex := BitVec.ofNat 7 (min a.toNat 127)
    velocity := BitVec.ofNat 7 (min b.toNat 127)
    keyDown := true
    noteOn := true
    sync := ⟨true, true, true, true⟩ }

/-- R283: NOTE_OFF releases the key only of the sounding note.
Rests on the spec's own decision D40 (assumption log 18). -/
def Obligations.NoteOffReleasesOnlyTheSoundingNote : Prop :=
  ∀ (a : Byte) (s : State), exec (.noteOff a) s = .next
    (if min a.toNat 127 = s.osc1.noteIndex.toNat then { s with keyDown := false } else s)

/-- R284, R285, R286: CONTROL_CHANGE, PITCH_BEND and KNOB record and tag, and apply the value unless the slot is the LFO's
destination, judged before any write; the rest holds.
Rests on the spec's own decision D41 (assumption log 18). -/
def Obligations.InjectedValuesAreRecordedAndAppliedUnlessLfoOwned : Prop :=
  ∀ (a b : Byte) (s : State),
    (∀ (i : Instr) (p : Slot),
      (i = .controlChange a b ∧ p.val = (if min a.toNat 31 ≤ 2 then 0 else min a.toNat 31)) ∨
        (i = .pitchBend b ∧ p.val = 7) →
      ∃ t, exec i s = .next t ∧ t = { s with store := t.store } ∧ t.store.rawReading = s.store.rawReading ∧
        ∀ q : Slot,
          t.override q = (if q = p then b else s.override q) ∧
          t.source q = (if q = p then .external else s.source q) ∧
          t.value q = (if q = p ∧ p ≠ dest Config.tables s then b else s.value q)) ∧
    (∀ p : Slot, p.val = min a.toNat 31 →
      ∃ t, exec (.knob a b) s = .next t ∧ t = { s with store := t.store } ∧ t.store.override = s.store.override ∧
        ∀ q : Slot,
          t.rawReading q = (if q = p then b else s.rawReading q) ∧
          t.source q = (if q = p then .knob else s.source q) ∧
          t.value q = (if q = p ∧ p ≠ dest Config.tables s then b else s.value q))

/-- R287, R60: RESET from any state, register by register; the model's own lists of words to come and of requests emitted are
kept (assumption log 17).
Rests on the spec's own decision D42 (assumption log 18). -/
def Obligations.ResetReachesTheResetState : Prop :=
  ∀ s : State, ∃ t, exec .reset s = .next t ∧ t.inbox = s.inbox ∧ t.emitted = s.emitted ∧
    (∀ p : Slot, t.value p = Config.tables.resetParam p ∧ t.rawReading p = Config.tables.resetParam p ∧
      t.override p = Config.tables.resetParam p ∧ t.source p = .knob) ∧
    t.osc1 = ⟨0, 0, 0, 0, 0, 0, 0, 0, 0⟩ ∧ t.osc2 = ⟨0, 0, 0, 0, 0, 0, 0, 0, 0⟩ ∧ t.lastPs = 64 ∧ t.velocity = 0 ∧
    t.adsrMultiplier = 47 ∧ t.noteOn = false ∧ t.keyDown = false ∧ t.sync = ⟨false, false, false, false⟩ ∧
    t.slowPending = false ∧ t.overrun = false ∧ t.rrState = .filter ∧
    t.gen1 = ⟨0, 0, 0xACE1⟩ ∧ t.gen2 = ⟨0, 0, 0xACE1⟩ ∧ t.genLfo = ⟨0, 0, 0xACE1⟩ ∧
    t.lpOut = 128 ∧ t.audioOut = 128 ∧ t.vcaOut = 47 ∧ t.amp = ⟨.attack, 0, 47, 47⟩ ∧
    t.flt = ⟨.attack, false, 0, 0, 0, 0, 0, 0, 0⟩ ∧ t.bus = ⟨.f1, 0, 0x100, 0x100, 0x100, true⟩ ∧
    t.lfo.phase = 0 ∧ t.lfo.lastDest = dest Config.tables t

/-- R281, R288, and R135's empty turn: NOP and JOB_KNOB change nothing; BUS_READY writes the readiness level.
Rests on the spec's own decisions D37, D47, D49 (assumption log 18). -/
def Obligations.NopKnobTurnAndBusReady : Prop :=
  ∀ (s : State) (level : Bool),
    exec .nop s = .next s ∧ exec .jobKnob s = .next s ∧
    exec (.busReady level) s = .next { s with bus.ready := level }

/-! ## The whole machine -/

/-- The reset state meets all the invariants.
Rests on the spec's own decision D42 (assumption log 18). -/
def Obligations.ResetMeetsTheInvariants : Prop :=
  AmpSafe State.reset ∧ FilterSafe State.reset.flt ∧ GlideSafe State.reset.osc1 ∧ GlideSafe State.reset.osc2 ∧
    CodesSafe State.reset

/-- Every step keeps the codes legal: no slot becomes tagged Loop, no noise register becomes 0, no last-written register rises
above 0x100.
The spec marks this as its own inference, from the operations' rules (assumption log 18). -/
def Obligations.EveryStepKeepsTheCodesLegal : Prop :=
  ∀ s t : State, CodesSafe s → step s = .next t → CodesSafe t

/-- R140: audio ticks do not influence the main loop. AUDIO_TICK leaves the main loop's view, and every operation's effect on that
view depends on that view alone.
The spec marks this as its own inference, from R131 to R133 and R81 (assumption log 18). -/
def Obligations.AudioTicksDoNotInfluenceTheMainLoop : Prop :=
  (∀ s t : State, exec .audioTick s = .next t → mainView t = mainView s) ∧
  (∀ (i : Instr) (s t u v : State), mainView s = mainView t → exec i s = .next u → exec i t = .next v →
    mainView u = mainView v)

/-- R140: the sample AUDIO_TICK puts out depends on the main loop only through the fields it reads.
The spec marks this as its own inference, from R131 to R133 and R81 (assumption log 18). -/
def Obligations.AudioOutputDependsOnlyOnItsInputs : Prop :=
  ∀ s t u v : State, SameAudioInputs s t → exec .audioTick s = .next u → exec .audioTick t = .next v →
    u.audioOut = v.audioOut ∧ SameAudioInputs u v
end

