-- ==== Sys2Proof/Laws/Arith.lean ====
section
/-! SUPPORT. What the arithmetic primitives and the stores into registers give, in range. -/

namespace Sys2Proof.Machine

@[simp] theorem floorShift_one (v : Int) : floorShift v 1 = v / 2 := rfl
@[simp] theorem floorShift_two (v : Int) : floorShift v 2 = v / 4 := rfl
@[simp] theorem floorShift_five (v : Int) : floorShift v 5 = v / 32 := rfl
@[simp] theorem floorShift_seven (v : Int) : floorShift v 7 = v / 128 := rfl
@[simp] theorem floorShift_eight (v : Int) : floorShift v 8 = v / 256 := rfl

/-- An 8-bit register holds an integer of 0..255 exactly. -/
theorem byteOf_toNat {v : Int} (h0 : 0 ≤ v) (h1 : v ≤ 255) : ((byteOf v).toNat : Int) = v := by
  rw [byteOf, BitVec.toNat_ofInt]; omega

/-- A 16-bit register holds an integer of 0..65535 exactly. -/
theorem word16Of_toNat {v : Int} (h0 : 0 ≤ v) (h1 : v ≤ 65535) : ((word16Of v).toNat : Int) = v := by
  rw [word16Of, BitVec.toNat_ofInt]; omega

/-- A signed 17-bit register holds an integer of −65536..65535 exactly. -/
theorem s17Of_toInt {v : Int} (h0 : -65536 ≤ v) (h1 : v ≤ 65535) : (s17Of v).toInt = v := by
  rw [s17Of, BitVec.toInt_ofInt]
  exact Int.bmod_eq_of_le (by omega) (by omega)

/-- `clamp` between ordered bounds is the usual `max` of `min`. -/
theorem clamp_eq (v : Int) {lo hi : Int} (h : lo ≤ hi) : clamp v lo hi = max lo (min hi v) := by
  unfold clamp; split_ifs <;> omega

/-- `sat8` saturates to 0..255. -/
theorem sat8_toNat (v : Int) : ((sat8 v).toNat : Int) = max 0 (min 255 v) := by
  rw [sat8, BitVec.toNat_ofInt, clamp_eq v (by omega)]; omega

/-- A clamped note index is in 0..127. -/
theorem clampNote_toNat (v : Int) : ((clampNote v).toNat : Int) = max 0 (min 127 v) := by
  rw [clampNote, BitVec.toNat_ofInt, clamp_eq v (by omega)]; omega

/-- `tdiv` is division truncating toward zero. -/
theorem tdiv_eq (a : Int) (b : Nat) : tdiv a b = a.tdiv b := by
  unfold tdiv
  rcases le_total 0 a with h | h
  · rcases h.eq_or_lt with rfl | h'
    · simp
    · rw [Int.sign_eq_one_of_pos h', Int.tdiv_eq_ediv_of_nonneg h, one_mul, Int.natCast_div, Int.natAbs_of_nonneg h]
  · rcases h.eq_or_lt with rfl | h'
    · simp
    · rw [Int.sign_eq_neg_one_of_neg h', ← neg_neg (a.tdiv b), ← Int.neg_tdiv, Int.tdiv_eq_ediv_of_nonneg (by omega),
        neg_one_mul, Int.natCast_div, ← Int.natAbs_neg, Int.natAbs_of_nonneg (by omega)]

/-- `tdiv` by a positive number times it stays between 0 and the dividend. -/
theorem tdiv_mul_between (a : Int) {b : Nat} (h : 0 < b) :
    (0 ≤ a → 0 ≤ tdiv a b ∧ tdiv a b * b ≤ a) ∧ (a ≤ 0 → tdiv a b ≤ 0 ∧ a ≤ tdiv a b * b) := by
  have hb : (0 : Int) < b := by exact_mod_cast h
  refine ⟨fun ha => ?_, fun ha => ?_⟩
  · rw [tdiv_eq, Int.tdiv_eq_ediv_of_nonneg ha]
    exact ⟨Int.ediv_nonneg ha hb.le, Int.ediv_mul_le a hb.ne'⟩
  · have h1 : a.tdiv b = -((-a) / b) := by
      rw [← Int.tdiv_eq_ediv_of_nonneg (by omega), Int.neg_tdiv, neg_neg]
    have h2 := Int.ediv_nonneg (a := -a) (by omega) hb.le
    have h3 := Int.ediv_mul_le (-a) hb.ne'
    rw [tdiv_eq, h1]
    exact ⟨by omega, by rw [neg_mul]; omega⟩

/-- An 8-bit register holds a natural number up to 255 exactly. -/
theorem byteOf_natCast {n : Nat} (h : n ≤ 255) : (byteOf (n : Int)).toNat = n := by
  have := byteOf_toNat (v := n) (by omega) (by omega)
  omega

/-- `tdiv` of a number in the signed 17-bit range stays in it, so the register holds it exactly. -/
theorem s17Of_tdiv_toInt {a : Int} {b : Nat} (hb : 0 < b) (h0 : -65536 ≤ a) (h1 : a ≤ 65535) :
    (s17Of (tdiv a b)).toInt = tdiv a b := by
  have h := tdiv_mul_between a hb
  rcases le_total 0 a with ha | ha
  · have h2 := h.1 ha
    have h3 : tdiv a b ≤ tdiv a b * b := le_mul_of_one_le_right h2.1 (by omega)
    exact s17Of_toInt (by omega) (by omega)
  · have h2 := h.2 ha
    have h3 : tdiv a b * b ≤ tdiv a b := by nlinarith
    exact s17Of_toInt (by omega) (by omega)

end Sys2Proof.Machine
end

