-- ==== Sys2Proof/Laws/Decode.lean ====
section
/-! SUPPORT. The fields of an event word, and the operand clamp. -/

namespace Sys2Proof

/-- An event word as a number (R101). -/
theorem eventWord_toNat (op a b : Byte) :
    (eventWord op a b).toNat = op.toNat * 65536 + a.toNat * 256 + b.toNat := by
  have h : (eventWord op a b).toNat = ((op.toNat <<< 8 ||| a.toNat) <<< 8 ||| b.toNat) := by
    show (op ++ a ++ b : BitVec (8 + 8 + 8)).toNat = _
    rw [BitVec.toNat_append, BitVec.toNat_append]
  rw [h, ← Nat.shiftLeft_add_eq_or_of_lt a.isLt, ← Nat.shiftLeft_add_eq_or_of_lt b.isLt, Nat.shiftLeft_eq, Nat.shiftLeft_eq]
  omega

/-- `op` as a number. -/
theorem eventOp_toNat (w : EventWord) : (eventOp w).toNat = w.toNat / 65536 := by
  have := w.isLt
  simp only [eventOp, BitVec.extractLsb'_toNat, Nat.shiftRight_eq_div_pow]
  omega

/-- `a` as a number. -/
theorem eventA_toNat (w : EventWord) : (eventA w).toNat = w.toNat / 256 % 256 := by
  simp only [eventA, BitVec.extractLsb'_toNat, Nat.shiftRight_eq_div_pow]

/-- `b` as a number. -/
theorem eventB_toNat (w : EventWord) : (eventB w).toNat = w.toNat % 256 := by
  simp only [eventB, BitVec.extractLsb'_toNat, Nat.shiftRight_eq_div_pow, pow_zero, Nat.div_one]

@[simp] theorem eventOp_eventWord (op a b : Byte) : eventOp (eventWord op a b) = op := by
  have := a.isLt; have := b.isLt
  apply BitVec.eq_of_toNat_eq
  rw [eventOp_toNat, eventWord_toNat]
  omega

@[simp] theorem eventA_eventWord (op a b : Byte) : eventA (eventWord op a b) = a := by
  have := a.isLt; have := b.isLt
  apply BitVec.eq_of_toNat_eq
  rw [eventA_toNat, eventWord_toNat]
  omega

@[simp] theorem eventB_eventWord (op a b : Byte) : eventB (eventWord op a b) = b := by
  have := b.isLt
  apply BitVec.eq_of_toNat_eq
  rw [eventB_toNat, eventWord_toNat]
  omega

/-- The row mask keeps `op` (R103). -/
theorem and_opMask (w : EventWord) : w.toNat &&& 0xFF0000 = (eventOp w).toNat * 65536 := by
  have h1 : w &&& (0xFF0000 : EventWord) = (w.extractLsb' 16 8 ++ (0#8 : Byte) ++ (0#8 : Byte) : BitVec (8 + 8 + 8)) := by
    apply BitVec.eq_of_getLsbD_eq
    intro i hi
    simp only [BitVec.getLsbD_and, BitVec.getLsbD_append, BitVec.getLsbD_extractLsb', BitVec.getLsbD_zero]
    interval_cases i <;> simp
  have h2 : w.toNat &&& 0xFF0000 = (w &&& (0xFF0000 : EventWord)).toNat := by rw [BitVec.toNat_and]; rfl
  rw [h2, h1]
  exact (eventWord_toNat (eventOp w) 0 0).trans (by simp)

/-- The clamp is `min` (R102). -/
theorem clampTop_toNat (top x : Byte) : (clampTop top x).toNat = min x.toNat top.toNat := by
  unfold clampTop
  split_ifs <;> omega

theorem clampNoteOperand_toNat (x : Byte) : (clampNoteOperand x).toNat = min x.toNat 127 := clampTop_toNat 127 x

theorem clampSlotOperand_toNat (x : Byte) : (clampSlotOperand x).toNat = min x.toNat 31 := clampTop_toNat 31 x

end Sys2Proof
end

