-- ==== Sys2Proof/Laws/Envelopes.lean ====
section
/-! SUPPORT. What the envelope computations give, in numbers: the levels of the amplitude envelope, and the ranges, slopes and
single steps of the filter envelope. -/

namespace Sys2Proof.Machine

/-! ## Amplitude envelope -/

/-- The ceiling of a velocity (R211). -/
theorem ampCeiling_toNat (v : Note) : (ampCeiling v).toNat = v.toNat * 416 / 256 + 47 := by
  have := v.isLt
  unfold ampCeiling
  rw [byteOf_natCast] <;> simp [Config.envSteps, Config.envFloor] <;> omega

/-- The level after an Attack step (R214). -/
theorem ampAttackLevel_toNat (level ceiling : Byte) (st : Nat) :
    (ampAttackLevel level ceiling st).toNat =
      if level.toNat < ceiling.toNat then min (level.toNat + st) ceiling.toNat else level.toNat := by
  have := level.isLt
  have := ceiling.isLt
  unfold ampAttackLevel
  split_ifs with h
  · exact byteOf_natCast (n := min (level.toNat + st) ceiling.toNat) (by omega)
  · rfl

/-- The level after a falling step (R215, R217). -/
theorem ampFallLevel_toNat (level low : Byte) (st : Nat) :
    (ampFallLevel level low st).toNat = max (level.toNat - st) low.toNat := by
  have := level.isLt
  have := low.isLt
  unfold ampFallLevel
  have := byteOf_toNat (v := max ((level.toNat : Int) - st) low.toNat) (by omega) (by omega)
  omega

/-- The sustain target under a ceiling at or above the floor (R214). -/
theorem ampSustainTarget_toNat (knob ceiling : Byte) (h : 47 ≤ ceiling.toNat) :
    (ampSustainTarget knob ceiling).toNat = knob.toNat * (ceiling.toNat - 47) / 256 + 47 := by
  have h1 := knob.isLt
  have h2 := ceiling.isLt
  have hb : knob.toNat * (ceiling.toNat - 47) ≤ 255 * 208 := Nat.mul_le_mul (by omega) (by omega)
  have e : (knob.toNat : Int) * ((ceiling.toNat : Int) - (47 : Nat)) = ((knob.toNat * (ceiling.toNat - 47) : Nat) : Int) := by
    push_cast [Nat.cast_sub h]; ring
  unfold ampSustainTarget
  simp only [floorShift_eight, Config.envFloor]
  rw [e]
  exact byteOf_natCast (n := knob.toNat * (ceiling.toNat - 47) / 256 + 47) (by omega)

/-! ## Filter envelope -/

/-- The peak of an amount (R232), in numbers. -/
theorem fltPeakOf_eq (s : State) : fltPeakOf s = ((s.value SlotNo.filterEnvAmount).toNat - 128) * 256 := by
  simp [fltPeakOf, shiftLeft, filterEnvAmount]

/-- The range of a peak (R232). -/
theorem fltPeakOf_range (s : State) : -32768 ≤ fltPeakOf s ∧ fltPeakOf s ≤ 32512 := by
  have := (s.value SlotNo.filterEnvAmount).isLt
  rw [fltPeakOf_eq]; omega

/-- The Decay target lies between 0 and the peak (R237). -/
theorem fltDecayTarget_between (peak : S17) (knob : Byte) :
    min 0 peak.toInt ≤ fltDecayTarget peak knob ∧ fltDecayTarget peak knob ≤ max 0 peak.toInt := by
  have hk := knob.isLt
  unfold fltDecayTarget
  rw [floorShift_eight]
  rcases le_total 0 peak.toInt with h | h
  · have h1 : 0 ≤ peak.toInt * knob.toNat := mul_nonneg h (by omega)
    have h2 : peak.toInt * knob.toNat ≤ peak.toInt * 256 := mul_le_mul_of_nonneg_left (by omega) h
    omega
  · have h1 : peak.toInt * knob.toNat ≤ 0 := mul_nonpos_of_nonpos_of_nonneg h (by omega)
    have h2 : peak.toInt * 256 ≤ peak.toInt * knob.toNat := mul_le_mul_of_nonpos_left (by omega) h
    omega

/-- A truncated slope over the steps it is computed for never passes the gap (R198, R232). -/
theorem staysOnPath_tdiv (gap : Int) {n : Nat} (h : 0 < n) : StaysOnPath (tdiv gap n) n gap := by
  have hb := tdiv_mul_between gap h
  rcases le_total 0 gap with h0 | h0
  · exact .inl (hb.1 h0)
  · exact .inr (hb.2 h0)

/-- A step before the last of a stage (R235). -/
theorem fltStepOnce_within {s : State} (h : s.flt.step.toNat < 127) :
    fltStepOnce s = { s with
      flt.step := s.flt.step + 1
      flt.adder := s17Of (s.flt.adder.toInt + s.flt.slope.toInt) } := by
  rw [fltStepOnce, if_neg]
  unfold Config.fltSteps
  omega

/-- The last step of a stage (R235). -/
theorem fltStepOnce_last {s : State} (h : s.flt.step.toNat = 127) :
    fltStepOnce s = fltStageEnd { s with flt.adder := s.flt.target, flt.step := 0 } := by
  rw [fltStepOnce, if_pos]
  unfold Config.fltSteps
  omega

/-! ## Pitch glide -/

/-- The increment is the truncated quotient by `2^L`, or one unit (R198). -/
theorem glideInc_eq (delta : Int) (L : Nat) :
    glideInc delta L = if delta.natAbs < 2 ^ L then delta.sign else delta.tdiv (2 ^ L) := by
  unfold glideInc
  split_ifs
  · rfl
  · have h := tdiv_eq delta (2 ^ L)
    unfold tdiv at h
    push_cast at h
    rw [← h, floorShift, Int.natCast_natAbs]

end Sys2Proof.Machine
end

