-- ==== Sys2Proof/Laws/Fields.lean ====
section
/-! SUPPORT. The fields of slots, phases and notes, in numbers (R111, R151), and the noise register's step (R158). -/

namespace Sys2Proof.Machine

theorem detuneField_toNat (s : State) : (detuneField s).toNat = (s.value SlotNo.oscDetune).toNat / 8 := by
  have := (s.value SlotNo.oscDetune).isLt
  simp only [detuneField, BitVec.extractLsb'_toNat, Nat.shiftRight_eq_div_pow]
  omega

theorem pitchField_toNat (s : State) : (pitchField s).toNat = (s.value SlotNo.pitchShift).toNat / 2 := by
  have := (s.value SlotNo.pitchShift).isLt
  simp only [pitchField, BitVec.extractLsb'_toNat, Nat.shiftRight_eq_div_pow]
  omega

theorem portamentoField_toNat (s : State) : (portamentoField s).toNat = (s.value SlotNo.portamento).toNat / 32 := by
  have := (s.value SlotNo.portamento).isLt
  simp only [portamentoField, BitVec.extractLsb'_toNat, Nat.shiftRight_eq_div_pow]
  omega

theorem lfoRateField_toNat (s : State) : (lfoRateField s).toNat = (s.value SlotNo.lfoRate).toNat / 8 := by
  have := (s.value SlotNo.lfoRate).isLt
  simp only [lfoRateField, BitVec.extractLsb'_toNat, Nat.shiftRight_eq_div_pow]
  omega

theorem lfoDestField_toNat (s : State) : (lfoDestField s).toNat = (s.value SlotNo.lfoDest).toNat / 32 := by
  have := (s.value SlotNo.lfoDest).isLt
  simp only [lfoDestField, BitVec.extractLsb'_toNat, Nat.shiftRight_eq_div_pow]
  omega

theorem lfoSyncEnable_eq (s : State) : lfoSyncEnable s = decide (128 ≤ (s.value SlotNo.lfoSync).toNat) := by
  unfold lfoSyncEnable
  generalize s.value SlotNo.lfoSync = v
  revert v
  decide

theorem phaseIndex_toNat (ph : Word16) : (phaseIndex ph).toNat = ph.toNat / 256 := by
  have := ph.isLt
  simp only [phaseIndex, BitVec.extractLsb'_toNat, Nat.shiftRight_eq_div_pow]
  omega

theorem phaseFrac_toNat (ph : Word16) : (phaseFrac ph).toNat = ph.toNat % 256 := by
  simp [phaseFrac, BitVec.extractLsb'_toNat]

/-- The band of a note, its neighbours and the note's place in it (R151, R153). -/
theorem bands_toNat (n : Note) :
    (noteBand n).toNat = n.toNat / 4 ∧ (bandBelow (noteBand n)).toNat = n.toNat / 4 - 1 ∧
      (bandAbove (noteBand n)).toNat = min (n.toNat / 4 + 1) 31 ∧ (notePos n).toNat = n.toNat % 4 := by
  revert n
  decide

end Sys2Proof.Machine
end

