-- ==== Sys2Proof/Laws/State.lean ====
section
/-! SUPPORT. One lemma per field per named update: what each of the update operations of Machine/Ops.lean leaves as it was. -/

namespace Sys2Proof.Machine

/-! ## setValue -/

@[simp] theorem State.setValue_osc1 (s : State) (p : Slot) (v : Byte) : (s.setValue p v).osc1 = s.osc1 := rfl
@[simp] theorem State.setValue_osc2 (s : State) (p : Slot) (v : Byte) : (s.setValue p v).osc2 = s.osc2 := rfl
@[simp] theorem State.setValue_lastPs (s : State) (p : Slot) (v : Byte) : (s.setValue p v).lastPs = s.lastPs := rfl
@[simp] theorem State.setValue_velocity (s : State) (p : Slot) (v : Byte) : (s.setValue p v).velocity = s.velocity := rfl
@[simp] theorem State.setValue_adsrMultiplier (s : State) (p : Slot) (v : Byte) : (s.setValue p v).adsrMultiplier = s.adsrMultiplier := rfl
@[simp] theorem State.setValue_noteOn (s : State) (p : Slot) (v : Byte) : (s.setValue p v).noteOn = s.noteOn := rfl
@[simp] theorem State.setValue_keyDown (s : State) (p : Slot) (v : Byte) : (s.setValue p v).keyDown = s.keyDown := rfl
@[simp] theorem State.setValue_sync (s : State) (p : Slot) (v : Byte) : (s.setValue p v).sync = s.sync := rfl
@[simp] theorem State.setValue_slowPending (s : State) (p : Slot) (v : Byte) : (s.setValue p v).slowPending = s.slowPending := rfl
@[simp] theorem State.setValue_overrun (s : State) (p : Slot) (v : Byte) : (s.setValue p v).overrun = s.overrun := rfl
@[simp] theorem State.setValue_rrState (s : State) (p : Slot) (v : Byte) : (s.setValue p v).rrState = s.rrState := rfl
@[simp] theorem State.setValue_gen1 (s : State) (p : Slot) (v : Byte) : (s.setValue p v).gen1 = s.gen1 := rfl
@[simp] theorem State.setValue_gen2 (s : State) (p : Slot) (v : Byte) : (s.setValue p v).gen2 = s.gen2 := rfl
@[simp] theorem State.setValue_genLfo (s : State) (p : Slot) (v : Byte) : (s.setValue p v).genLfo = s.genLfo := rfl
@[simp] theorem State.setValue_lpOut (s : State) (p : Slot) (v : Byte) : (s.setValue p v).lpOut = s.lpOut := rfl
@[simp] theorem State.setValue_audioOut (s : State) (p : Slot) (v : Byte) : (s.setValue p v).audioOut = s.audioOut := rfl
@[simp] theorem State.setValue_amp (s : State) (p : Slot) (v : Byte) : (s.setValue p v).amp = s.amp := rfl
@[simp] theorem State.setValue_flt (s : State) (p : Slot) (v : Byte) : (s.setValue p v).flt = s.flt := rfl
@[simp] theorem State.setValue_bus (s : State) (p : Slot) (v : Byte) : (s.setValue p v).bus = s.bus := rfl
@[simp] theorem State.setValue_lfo (s : State) (p : Slot) (v : Byte) : (s.setValue p v).lfo = s.lfo := rfl
@[simp] theorem State.setValue_vcaOut (s : State) (p : Slot) (v : Byte) : (s.setValue p v).vcaOut = s.vcaOut := rfl
@[simp] theorem State.setValue_samples (s : State) (p : Slot) (v : Byte) : (s.setValue p v).samples = s.samples := rfl
@[simp] theorem State.setValue_emitted (s : State) (p : Slot) (v : Byte) : (s.setValue p v).emitted = s.emitted := rfl
@[simp] theorem State.setValue_inbox (s : State) (p : Slot) (v : Byte) : (s.setValue p v).inbox = s.inbox := rfl

/-! ## setRawReading -/

@[simp] theorem State.setRawReading_osc1 (s : State) (p : Slot) (v : Byte) : (s.setRawReading p v).osc1 = s.osc1 := rfl
@[simp] theorem State.setRawReading_osc2 (s : State) (p : Slot) (v : Byte) : (s.setRawReading p v).osc2 = s.osc2 := rfl
@[simp] theorem State.setRawReading_lastPs (s : State) (p : Slot) (v : Byte) : (s.setRawReading p v).lastPs = s.lastPs := rfl
@[simp] theorem State.setRawReading_velocity (s : State) (p : Slot) (v : Byte) : (s.setRawReading p v).velocity = s.velocity := rfl
@[simp] theorem State.setRawReading_adsrMultiplier (s : State) (p : Slot) (v : Byte) : (s.setRawReading p v).adsrMultiplier = s.adsrMultiplier := rfl
@[simp] theorem State.setRawReading_noteOn (s : State) (p : Slot) (v : Byte) : (s.setRawReading p v).noteOn = s.noteOn := rfl
@[simp] theorem State.setRawReading_keyDown (s : State) (p : Slot) (v : Byte) : (s.setRawReading p v).keyDown = s.keyDown := rfl
@[simp] theorem State.setRawReading_sync (s : State) (p : Slot) (v : Byte) : (s.setRawReading p v).sync = s.sync := rfl
@[simp] theorem State.setRawReading_slowPending (s : State) (p : Slot) (v : Byte) : (s.setRawReading p v).slowPending = s.slowPending := rfl
@[simp] theorem State.setRawReading_overrun (s : State) (p : Slot) (v : Byte) : (s.setRawReading p v).overrun = s.overrun := rfl
@[simp] theorem State.setRawReading_rrState (s : State) (p : Slot) (v : Byte) : (s.setRawReading p v).rrState = s.rrState := rfl
@[simp] theorem State.setRawReading_gen1 (s : State) (p : Slot) (v : Byte) : (s.setRawReading p v).gen1 = s.gen1 := rfl
@[simp] theorem State.setRawReading_gen2 (s : State) (p : Slot) (v : Byte) : (s.setRawReading p v).gen2 = s.gen2 := rfl
@[simp] theorem State.setRawReading_genLfo (s : State) (p : Slot) (v : Byte) : (s.setRawReading p v).genLfo = s.genLfo := rfl
@[simp] theorem State.setRawReading_lpOut (s : State) (p : Slot) (v : Byte) : (s.setRawReading p v).lpOut = s.lpOut := rfl
@[simp] theorem State.setRawReading_audioOut (s : State) (p : Slot) (v : Byte) : (s.setRawReading p v).audioOut = s.audioOut := rfl
@[simp] theorem State.setRawReading_amp (s : State) (p : Slot) (v : Byte) : (s.setRawReading p v).amp = s.amp := rfl
@[simp] theorem State.setRawReading_flt (s : State) (p : Slot) (v : Byte) : (s.setRawReading p v).flt = s.flt := rfl
@[simp] theorem State.setRawReading_bus (s : State) (p : Slot) (v : Byte) : (s.setRawReading p v).bus = s.bus := rfl
@[simp] theorem State.setRawReading_lfo (s : State) (p : Slot) (v : Byte) : (s.setRawReading p v).lfo = s.lfo := rfl
@[simp] theorem State.setRawReading_vcaOut (s : State) (p : Slot) (v : Byte) : (s.setRawReading p v).vcaOut = s.vcaOut := rfl
@[simp] theorem State.setRawReading_samples (s : State) (p : Slot) (v : Byte) : (s.setRawReading p v).samples = s.samples := rfl
@[simp] theorem State.setRawReading_emitted (s : State) (p : Slot) (v : Byte) : (s.setRawReading p v).emitted = s.emitted := rfl
@[simp] theorem State.setRawReading_inbox (s : State) (p : Slot) (v : Byte) : (s.setRawReading p v).inbox = s.inbox := rfl

/-! ## setOverride -/

@[simp] theorem State.setOverride_osc1 (s : State) (p : Slot) (v : Byte) : (s.setOverride p v).osc1 = s.osc1 := rfl
@[simp] theorem State.setOverride_osc2 (s : State) (p : Slot) (v : Byte) : (s.setOverride p v).osc2 = s.osc2 := rfl
@[simp] theorem State.setOverride_lastPs (s : State) (p : Slot) (v : Byte) : (s.setOverride p v).lastPs = s.lastPs := rfl
@[simp] theorem State.setOverride_velocity (s : State) (p : Slot) (v : Byte) : (s.setOverride p v).velocity = s.velocity := rfl
@[simp] theorem State.setOverride_adsrMultiplier (s : State) (p : Slot) (v : Byte) : (s.setOverride p v).adsrMultiplier = s.adsrMultiplier := rfl
@[simp] theorem State.setOverride_noteOn (s : State) (p : Slot) (v : Byte) : (s.setOverride p v).noteOn = s.noteOn := rfl
@[simp] theorem State.setOverride_keyDown (s : State) (p : Slot) (v : Byte) : (s.setOverride p v).keyDown = s.keyDown := rfl
@[simp] theorem State.setOverride_sync (s : State) (p : Slot) (v : Byte) : (s.setOverride p v).sync = s.sync := rfl
@[simp] theorem State.setOverride_slowPending (s : State) (p : Slot) (v : Byte) : (s.setOverride p v).slowPending = s.slowPending := rfl
@[simp] theorem State.setOverride_overrun (s : State) (p : Slot) (v : Byte) : (s.setOverride p v).overrun = s.overrun := rfl
@[simp] theorem State.setOverride_rrState (s : State) (p : Slot) (v : Byte) : (s.setOverride p v).rrState = s.rrState := rfl
@[simp] theorem State.setOverride_gen1 (s : State) (p : Slot) (v : Byte) : (s.setOverride p v).gen1 = s.gen1 := rfl
@[simp] theorem State.setOverride_gen2 (s : State) (p : Slot) (v : Byte) : (s.setOverride p v).gen2 = s.gen2 := rfl
@[simp] theorem State.setOverride_genLfo (s : State) (p : Slot) (v : Byte) : (s.setOverride p v).genLfo = s.genLfo := rfl
@[simp] theorem State.setOverride_lpOut (s : State) (p : Slot) (v : Byte) : (s.setOverride p v).lpOut = s.lpOut := rfl
@[simp] theorem State.setOverride_audioOut (s : State) (p : Slot) (v : Byte) : (s.setOverride p v).audioOut = s.audioOut := rfl
@[simp] theorem State.setOverride_amp (s : State) (p : Slot) (v : Byte) : (s.setOverride p v).amp = s.amp := rfl
@[simp] theorem State.setOverride_flt (s : State) (p : Slot) (v : Byte) : (s.setOverride p v).flt = s.flt := rfl
@[simp] theorem State.setOverride_bus (s : State) (p : Slot) (v : Byte) : (s.setOverride p v).bus = s.bus := rfl
@[simp] theorem State.setOverride_lfo (s : State) (p : Slot) (v : Byte) : (s.setOverride p v).lfo = s.lfo := rfl
@[simp] theorem State.setOverride_vcaOut (s : State) (p : Slot) (v : Byte) : (s.setOverride p v).vcaOut = s.vcaOut := rfl
@[simp] theorem State.setOverride_samples (s : State) (p : Slot) (v : Byte) : (s.setOverride p v).samples = s.samples := rfl
@[simp] theorem State.setOverride_emitted (s : State) (p : Slot) (v : Byte) : (s.setOverride p v).emitted = s.emitted := rfl
@[simp] theorem State.setOverride_inbox (s : State) (p : Slot) (v : Byte) : (s.setOverride p v).inbox = s.inbox := rfl

/-! ## setSource -/

@[simp] theorem State.setSource_osc1 (s : State) (p : Slot) (v : Source) : (s.setSource p v).osc1 = s.osc1 := rfl
@[simp] theorem State.setSource_osc2 (s : State) (p : Slot) (v : Source) : (s.setSource p v).osc2 = s.osc2 := rfl
@[simp] theorem State.setSource_lastPs (s : State) (p : Slot) (v : Source) : (s.setSource p v).lastPs = s.lastPs := rfl
@[simp] theorem State.setSource_velocity (s : State) (p : Slot) (v : Source) : (s.setSource p v).velocity = s.velocity := rfl
@[simp] theorem State.setSource_adsrMultiplier (s : State) (p : Slot) (v : Source) : (s.setSource p v).adsrMultiplier = s.adsrMultiplier := rfl
@[simp] theorem State.setSource_noteOn (s : State) (p : Slot) (v : Source) : (s.setSource p v).noteOn = s.noteOn := rfl
@[simp] theorem State.setSource_keyDown (s : State) (p : Slot) (v : Source) : (s.setSource p v).keyDown = s.keyDown := rfl
@[simp] theorem State.setSource_sync (s : State) (p : Slot) (v : Source) : (s.setSource p v).sync = s.sync := rfl
@[simp] theorem State.setSource_slowPending (s : State) (p : Slot) (v : Source) : (s.setSource p v).slowPending = s.slowPending := rfl
@[simp] theorem State.setSource_overrun (s : State) (p : Slot) (v : Source) : (s.setSource p v).overrun = s.overrun := rfl
@[simp] theorem State.setSource_rrState (s : State) (p : Slot) (v : Source) : (s.setSource p v).rrState = s.rrState := rfl
@[simp] theorem State.setSource_gen1 (s : State) (p : Slot) (v : Source) : (s.setSource p v).gen1 = s.gen1 := rfl
@[simp] theorem State.setSource_gen2 (s : State) (p : Slot) (v : Source) : (s.setSource p v).gen2 = s.gen2 := rfl
@[simp] theorem State.setSource_genLfo (s : State) (p : Slot) (v : Source) : (s.setSource p v).genLfo = s.genLfo := rfl
@[simp] theorem State.setSource_lpOut (s : State) (p : Slot) (v : Source) : (s.setSource p v).lpOut = s.lpOut := rfl
@[simp] theorem State.setSource_audioOut (s : State) (p : Slot) (v : Source) : (s.setSource p v).audioOut = s.audioOut := rfl
@[simp] theorem State.setSource_amp (s : State) (p : Slot) (v : Source) : (s.setSource p v).amp = s.amp := rfl
@[simp] theorem State.setSource_flt (s : State) (p : Slot) (v : Source) : (s.setSource p v).flt = s.flt := rfl
@[simp] theorem State.setSource_bus (s : State) (p : Slot) (v : Source) : (s.setSource p v).bus = s.bus := rfl
@[simp] theorem State.setSource_lfo (s : State) (p : Slot) (v : Source) : (s.setSource p v).lfo = s.lfo := rfl
@[simp] theorem State.setSource_vcaOut (s : State) (p : Slot) (v : Source) : (s.setSource p v).vcaOut = s.vcaOut := rfl
@[simp] theorem State.setSource_samples (s : State) (p : Slot) (v : Source) : (s.setSource p v).samples = s.samples := rfl
@[simp] theorem State.setSource_emitted (s : State) (p : Slot) (v : Source) : (s.setSource p v).emitted = s.emitted := rfl
@[simp] theorem State.setSource_inbox (s : State) (p : Slot) (v : Source) : (s.setSource p v).inbox = s.inbox := rfl

/-! ## emit -/

@[simp] theorem State.emit_store (s : State) (p : Pot) (v : Byte) : (s.emit p v).store = s.store := rfl
@[simp] theorem State.emit_osc1 (s : State) (p : Pot) (v : Byte) : (s.emit p v).osc1 = s.osc1 := rfl
@[simp] theorem State.emit_osc2 (s : State) (p : Pot) (v : Byte) : (s.emit p v).osc2 = s.osc2 := rfl
@[simp] theorem State.emit_lastPs (s : State) (p : Pot) (v : Byte) : (s.emit p v).lastPs = s.lastPs := rfl
@[simp] theorem State.emit_velocity (s : State) (p : Pot) (v : Byte) : (s.emit p v).velocity = s.velocity := rfl
@[simp] theorem State.emit_adsrMultiplier (s : State) (p : Pot) (v : Byte) : (s.emit p v).adsrMultiplier = s.adsrMultiplier := rfl
@[simp] theorem State.emit_noteOn (s : State) (p : Pot) (v : Byte) : (s.emit p v).noteOn = s.noteOn := rfl
@[simp] theorem State.emit_keyDown (s : State) (p : Pot) (v : Byte) : (s.emit p v).keyDown = s.keyDown := rfl
@[simp] theorem State.emit_sync (s : State) (p : Pot) (v : Byte) : (s.emit p v).sync = s.sync := rfl
@[simp] theorem State.emit_slowPending (s : State) (p : Pot) (v : Byte) : (s.emit p v).slowPending = s.slowPending := rfl
@[simp] theorem State.emit_overrun (s : State) (p : Pot) (v : Byte) : (s.emit p v).overrun = s.overrun := rfl
@[simp] theorem State.emit_rrState (s : State) (p : Pot) (v : Byte) : (s.emit p v).rrState = s.rrState := rfl
@[simp] theorem State.emit_gen1 (s : State) (p : Pot) (v : Byte) : (s.emit p v).gen1 = s.gen1 := rfl
@[simp] theorem State.emit_gen2 (s : State) (p : Pot) (v : Byte) : (s.emit p v).gen2 = s.gen2 := rfl
@[simp] theorem State.emit_genLfo (s : State) (p : Pot) (v : Byte) : (s.emit p v).genLfo = s.genLfo := rfl
@[simp] theorem State.emit_lpOut (s : State) (p : Pot) (v : Byte) : (s.emit p v).lpOut = s.lpOut := rfl
@[simp] theorem State.emit_audioOut (s : State) (p : Pot) (v : Byte) : (s.emit p v).audioOut = s.audioOut := rfl
@[simp] theorem State.emit_amp (s : State) (p : Pot) (v : Byte) : (s.emit p v).amp = s.amp := rfl
@[simp] theorem State.emit_flt (s : State) (p : Pot) (v : Byte) : (s.emit p v).flt = s.flt := rfl
@[simp] theorem State.emit_bus (s : State) (p : Pot) (v : Byte) : (s.emit p v).bus = s.bus := rfl
@[simp] theorem State.emit_lfo (s : State) (p : Pot) (v : Byte) : (s.emit p v).lfo = s.lfo := rfl
@[simp] theorem State.emit_vcaOut (s : State) (p : Pot) (v : Byte) : (s.emit p v).vcaOut = s.vcaOut := rfl
@[simp] theorem State.emit_samples (s : State) (p : Pot) (v : Byte) : (s.emit p v).samples = s.samples := rfl
@[simp] theorem State.emit_inbox (s : State) (p : Pot) (v : Byte) : (s.emit p v).inbox = s.inbox := rfl

/-! ## setGen -/

@[simp] theorem State.setGen_store (s : State) (g : Gen) (r : GenRec) : (s.setGen g r).store = s.store := by cases g <;> rfl
@[simp] theorem State.setGen_osc1 (s : State) (g : Gen) (r : GenRec) : (s.setGen g r).osc1 = s.osc1 := by cases g <;> rfl
@[simp] theorem State.setGen_osc2 (s : State) (g : Gen) (r : GenRec) : (s.setGen g r).osc2 = s.osc2 := by cases g <;> rfl
@[simp] theorem State.setGen_lastPs (s : State) (g : Gen) (r : GenRec) : (s.setGen g r).lastPs = s.lastPs := by cases g <;> rfl
@[simp] theorem State.setGen_velocity (s : State) (g : Gen) (r : GenRec) : (s.setGen g r).velocity = s.velocity := by cases g <;> rfl
@[simp] theorem State.setGen_adsrMultiplier (s : State) (g : Gen) (r : GenRec) : (s.setGen g r).adsrMultiplier = s.adsrMultiplier := by cases g <;> rfl
@[simp] theorem State.setGen_noteOn (s : State) (g : Gen) (r : GenRec) : (s.setGen g r).noteOn = s.noteOn := by cases g <;> rfl
@[simp] theorem State.setGen_keyDown (s : State) (g : Gen) (r : GenRec) : (s.setGen g r).keyDown = s.keyDown := by cases g <;> rfl
@[simp] theorem State.setGen_sync (s : State) (g : Gen) (r : GenRec) : (s.setGen g r).sync = s.sync := by cases g <;> rfl
@[simp] theorem State.setGen_slowPending (s : State) (g : Gen) (r : GenRec) : (s.setGen g r).slowPending = s.slowPending := by cases g <;> rfl
@[simp] theorem State.setGen_overrun (s : State) (g : Gen) (r : GenRec) : (s.setGen g r).overrun = s.overrun := by cases g <;> rfl
@[simp] theorem State.setGen_rrState (s : State) (g : Gen) (r : GenRec) : (s.setGen g r).rrState = s.rrState := by cases g <;> rfl
@[simp] theorem State.setGen_lpOut (s : State) (g : Gen) (r : GenRec) : (s.setGen g r).lpOut = s.lpOut := by cases g <;> rfl
@[simp] theorem State.setGen_audioOut (s : State) (g : Gen) (r : GenRec) : (s.setGen g r).audioOut = s.audioOut := by cases g <;> rfl
@[simp] theorem State.setGen_amp (s : State) (g : Gen) (r : GenRec) : (s.setGen g r).amp = s.amp := by cases g <;> rfl
@[simp] theorem State.setGen_flt (s : State) (g : Gen) (r : GenRec) : (s.setGen g r).flt = s.flt := by cases g <;> rfl
@[simp] theorem State.setGen_bus (s : State) (g : Gen) (r : GenRec) : (s.setGen g r).bus = s.bus := by cases g <;> rfl
@[simp] theorem State.setGen_lfo (s : State) (g : Gen) (r : GenRec) : (s.setGen g r).lfo = s.lfo := by cases g <;> rfl
@[simp] theorem State.setGen_vcaOut (s : State) (g : Gen) (r : GenRec) : (s.setGen g r).vcaOut = s.vcaOut := by cases g <;> rfl
@[simp] theorem State.setGen_samples (s : State) (g : Gen) (r : GenRec) : (s.setGen g r).samples = s.samples := by cases g <;> rfl
@[simp] theorem State.setGen_emitted (s : State) (g : Gen) (r : GenRec) : (s.setGen g r).emitted = s.emitted := by cases g <;> rfl
@[simp] theorem State.setGen_inbox (s : State) (g : Gen) (r : GenRec) : (s.setGen g r).inbox = s.inbox := by cases g <;> rfl

/-! ## setSample -/

@[simp] theorem State.setSample_store (s : State) (g : Gen) (v : Byte) : (s.setSample g v).store = s.store := by cases g <;> rfl
@[simp] theorem State.setSample_osc1 (s : State) (g : Gen) (v : Byte) : (s.setSample g v).osc1 = s.osc1 := by cases g <;> rfl
@[simp] theorem State.setSample_osc2 (s : State) (g : Gen) (v : Byte) : (s.setSample g v).osc2 = s.osc2 := by cases g <;> rfl
@[simp] theorem State.setSample_lastPs (s : State) (g : Gen) (v : Byte) : (s.setSample g v).lastPs = s.lastPs := by cases g <;> rfl
@[simp] theorem State.setSample_velocity (s : State) (g : Gen) (v : Byte) : (s.setSample g v).velocity = s.velocity := by cases g <;> rfl
@[simp] theorem State.setSample_adsrMultiplier (s : State) (g : Gen) (v : Byte) : (s.setSample g v).adsrMultiplier = s.adsrMultiplier := by cases g <;> rfl
@[simp] theorem State.setSample_noteOn (s : State) (g : Gen) (v : Byte) : (s.setSample g v).noteOn = s.noteOn := by cases g <;> rfl
@[simp] theorem State.setSample_keyDown (s : State) (g : Gen) (v : Byte) : (s.setSample g v).keyDown = s.keyDown := by cases g <;> rfl
@[simp] theorem State.setSample_sync (s : State) (g : Gen) (v : Byte) : (s.setSample g v).sync = s.sync := by cases g <;> rfl
@[simp] theorem State.setSample_slowPending (s : State) (g : Gen) (v : Byte) : (s.setSample g v).slowPending = s.slowPending := by cases g <;> rfl
@[simp] theorem State.setSample_overrun (s : State) (g : Gen) (v : Byte) : (s.setSample g v).overrun = s.overrun := by cases g <;> rfl
@[simp] theorem State.setSample_rrState (s : State) (g : Gen) (v : Byte) : (s.setSample g v).rrState = s.rrState := by cases g <;> rfl
@[simp] theorem State.setSample_gen1 (s : State) (g : Gen) (v : Byte) : (s.setSample g v).gen1 = s.gen1 := by cases g <;> rfl
@[simp] theorem State.setSample_gen2 (s : State) (g : Gen) (v : Byte) : (s.setSample g v).gen2 = s.gen2 := by cases g <;> rfl
@[simp] theorem State.setSample_genLfo (s : State) (g : Gen) (v : Byte) : (s.setSample g v).genLfo = s.genLfo := by cases g <;> rfl
@[simp] theorem State.setSample_lpOut (s : State) (g : Gen) (v : Byte) : (s.setSample g v).lpOut = s.lpOut := by cases g <;> rfl
@[simp] theorem State.setSample_audioOut (s : State) (g : Gen) (v : Byte) : (s.setSample g v).audioOut = s.audioOut := by cases g <;> rfl
@[simp] theorem State.setSample_amp (s : State) (g : Gen) (v : Byte) : (s.setSample g v).amp = s.amp := by cases g <;> rfl
@[simp] theorem State.setSample_flt (s : State) (g : Gen) (v : Byte) : (s.setSample g v).flt = s.flt := by cases g <;> rfl
@[simp] theorem State.setSample_bus (s : State) (g : Gen) (v : Byte) : (s.setSample g v).bus = s.bus := by cases g <;> rfl
@[simp] theorem State.setSample_lfo (s : State) (g : Gen) (v : Byte) : (s.setSample g v).lfo = s.lfo := by cases g <;> rfl
@[simp] theorem State.setSample_vcaOut (s : State) (g : Gen) (v : Byte) : (s.setSample g v).vcaOut = s.vcaOut := by cases g <;> rfl
@[simp] theorem State.setSample_emitted (s : State) (g : Gen) (v : Byte) : (s.setSample g v).emitted = s.emitted := by cases g <;> rfl
@[simp] theorem State.setSample_inbox (s : State) (g : Gen) (v : Byte) : (s.setSample g v).inbox = s.inbox := by cases g <;> rfl

/-! ## The cells each update writes -/

@[simp] theorem State.setValue_rawReading (s : State) (p : Slot) (v : Byte) :
    (s.setValue p v).store.rawReading = s.store.rawReading := rfl
@[simp] theorem State.setValue_override (s : State) (p : Slot) (v : Byte) :
    (s.setValue p v).store.override = s.store.override := rfl
@[simp] theorem State.setValue_source (s : State) (p : Slot) (v : Byte) :
    (s.setValue p v).store.source = s.store.source := rfl
@[simp] theorem State.setRawReading_value (s : State) (p : Slot) (v : Byte) :
    (s.setRawReading p v).store.value = s.store.value := rfl
@[simp] theorem State.setOverride_value (s : State) (p : Slot) (v : Byte) :
    (s.setOverride p v).store.value = s.store.value := rfl
@[simp] theorem State.setSource_value (s : State) (p : Slot) (v : Source) :
    (s.setSource p v).store.value = s.store.value := rfl
@[simp] theorem State.emit_emitted_eq (s : State) (p : Pot) (v : Byte) :
    (s.emit p v).emitted = s.emitted ++ [⟨p, v⟩] := rfl

end Sys2Proof.Machine
end

