-- ==== Sys2Proof/Laws/Ops.lean ====
section
/-! SUPPORT. Read-after-write for the ParameterStore and the register groups, and what the operand forms read. -/

namespace Sys2Proof.Machine

open Sys2Proof.Config (Tables)

/-! ## Slots -/

@[simp] theorem value_setValue (s : State) (p q : Slot) (v : Byte) :
    (s.setValue p v).value q = if q = p then v else s.value q := by
  simp only [State.value, State.setValue, Fin.getElem_fin, Vector.getElem_set, Fin.ext_iff, eq_comm]

@[simp] theorem rawReading_setRawReading (s : State) (p q : Slot) (v : Byte) :
    (s.setRawReading p v).rawReading q = if q = p then v else s.rawReading q := by
  simp only [State.rawReading, State.setRawReading, Fin.getElem_fin, Vector.getElem_set, Fin.ext_iff, eq_comm]

@[simp] theorem override_setOverride (s : State) (p q : Slot) (v : Byte) :
    (s.setOverride p v).override q = if q = p then v else s.override q := by
  simp only [State.override, State.setOverride, Fin.getElem_fin, Vector.getElem_set, Fin.ext_iff, eq_comm]

@[simp] theorem source_setSource (s : State) (p q : Slot) (t : Source) :
    (s.setSource p t).source q = if q = p then t else s.source q := by
  simp only [State.source, State.setSource, Fin.getElem_fin, Vector.getElem_set, Fin.ext_iff, eq_comm]

@[simp] theorem rawReading_setValue (s : State) (p q : Slot) (v : Byte) :
    (s.setValue p v).rawReading q = s.rawReading q := rfl
@[simp] theorem override_setValue (s : State) (p q : Slot) (v : Byte) :
    (s.setValue p v).override q = s.override q := rfl
@[simp] theorem source_setValue (s : State) (p q : Slot) (v : Byte) :
    (s.setValue p v).source q = s.source q := rfl
@[simp] theorem value_setRawReading (s : State) (p q : Slot) (v : Byte) :
    (s.setRawReading p v).value q = s.value q := rfl
@[simp] theorem override_setRawReading (s : State) (p q : Slot) (v : Byte) :
    (s.setRawReading p v).override q = s.override q := rfl
@[simp] theorem source_setRawReading (s : State) (p q : Slot) (v : Byte) :
    (s.setRawReading p v).source q = s.source q := rfl
@[simp] theorem value_setOverride (s : State) (p q : Slot) (v : Byte) :
    (s.setOverride p v).value q = s.value q := rfl
@[simp] theorem rawReading_setOverride (s : State) (p q : Slot) (v : Byte) :
    (s.setOverride p v).rawReading q = s.rawReading q := rfl
@[simp] theorem source_setOverride (s : State) (p q : Slot) (v : Byte) :
    (s.setOverride p v).source q = s.source q := rfl
@[simp] theorem value_setSource (s : State) (p q : Slot) (t : Source) :
    (s.setSource p t).value q = s.value q := rfl
@[simp] theorem rawReading_setSource (s : State) (p q : Slot) (t : Source) :
    (s.setSource p t).rawReading q = s.rawReading q := rfl
@[simp] theorem override_setSource (s : State) (p q : Slot) (t : Source) :
    (s.setSource p t).override q = s.override q := rfl

/-- A slot's effective value depends on the store alone. -/
theorem value_congr {s t : State} (h : s.store = t.store) (p : Slot) : s.value p = t.value p := by
  simp only [State.value, h]

/-- Every cell of `slotCells f` is `f` of its slot. -/
theorem slotCells_get {α : Type} (f : Slot → α) (p : Slot) : (slotCells f)[p] = f p := by
  fin_cases p <;> rfl

/-- `dest()` depends on the store alone. -/
theorem dest_congr (c : Tables) {s t : State} (h : s.store = t.store) : dest c s = dest c t := by
  simp only [dest, lfoDestField, value_congr h]

/-- `gov` depends on the store alone. -/
theorem gov_congr {s t : State} (h : s.store = t.store) (p : Slot) : gov s p = gov t p := by
  simp only [gov, State.source, State.override, State.rawReading, h]

/-! ## Generators and samples -/

@[simp] theorem gen_setGen_same (s : State) (g : Gen) (r : GenRec) : (s.setGen g r).gen g = r := by cases g <;> rfl

theorem gen_setGen_of_ne (s : State) {g h : Gen} (r : GenRec) (ne : h ≠ g) : (s.setGen g r).gen h = s.gen h := by
  cases g <;> cases h <;> first | rfl | exact absurd rfl ne

@[simp] theorem sample_setSample_same (s : State) (g : Gen) (v : Byte) : (s.setSample g v).sample g = v := by
  cases g <;> rfl

theorem sample_setSample_of_ne (s : State) {g h : Gen} (v : Byte) (ne : h ≠ g) :
    (s.setSample g v).sample h = s.sample h := by
  cases g <;> cases h <;> first | rfl | exact absurd rfl ne

@[simp] theorem gen_setSample (s : State) (g h : Gen) (v : Byte) : (s.setSample g v).gen h = s.gen h := by
  cases g <;> cases h <;> rfl

@[simp] theorem sample_setGen (s : State) (g h : Gen) (r : GenRec) : (s.setGen g r).sample h = s.sample h := by
  cases g <;> cases h <;> rfl

@[simp] theorem setGen_gen (s : State) (g : Gen) : s.setGen g (s.gen g) = s := by cases g <;> rfl

/-! ## Rotations -/

@[simp] theorem nextJob_four (j : Job) : nextJob (nextJob (nextJob (nextJob j))) = j := by cases j <;> rfl

@[simp] theorem nextBusState_four (b : BusState) : nextBusState (nextBusState (nextBusState (nextBusState b))) = b := by
  cases b <;> rfl

end Sys2Proof.Machine
end

