-- ==== Sys2Proof/Laws/Frames.lean ====
section
/-! SUPPORT. For each shared operation, once, all that it can write: the state after is the state before but for the fields named. -/

namespace Sys2Proof.Machine

open Sys2Proof.Config (Tables)

/-! ## Waveforms -/

/-- An evaluation writes its owner's record and sample only. -/
theorem evalWave_frame (c : Tables) (w : WaveId) (g : Gen) (s : State) :
    evalWave c w g s = (s.setGen g ((evalWave c w g s).gen g)).setSample g ((evalWave c w g s).sample g) := by
  simp [evalWave]

/-- The record and sample an evaluation leaves are `Wave`'s. -/
theorem evalWave_result (c : Tables) (w : WaveId) (g : Gen) (s : State) :
    ((evalWave c w g s).gen g, (evalWave c w g s).sample g)
      = wave c w (s.gen g) (wavePhase s g) (waveNoteRate s g) (waveReload s g) := by
  simp [evalWave]

/-- The operation of a waveform evaluates it for its owner. -/
theorem exec_waveInstr (w : WaveId) (g : Gen) (s : State) :
    exec (waveInstr g w) s = .next (evalWave Config.tables w g s) := by
  cases w
  case morph k => fin_cases k <;> rfl
  all_goals rfl

/-! ## Amplitude envelope -/

theorem ampSyncTake_frame (s : State) :
    ampSyncTake s = { s with sync.amplitude := false, amp := (ampSyncTake s).amp } := by
  unfold ampSyncTake clearAmplitudeSync
  split_ifs with h
  · rfl
  · rw [Bool.not_eq_true] at h
    rw [← h]

theorem ampForceRelease_frame (s : State) : ampForceRelease s = { s with amp := (ampForceRelease s).amp } := by
  unfold ampForceRelease
  split_ifs <;> rfl

theorem ampAdvance_frame (c : Tables) (s : State) :
    ampAdvance c s = { s with
      amp := (ampAdvance c s).amp
      adsrMultiplier := (ampAdvance c s).adsrMultiplier
      noteOn := (ampAdvance c s).noteOn } := by
  unfold ampAdvance ampAttackStep ampDecayStep ampReleaseStep
  split_ifs
  · rfl
  · rfl
  · split <;> dsimp only <;> split_ifs <;> rfl

theorem ampStage_frame (c : Tables) (s : State) :
    ampStage c s = { s with
      amp := (ampStage c s).amp
      adsrMultiplier := (ampStage c s).adsrMultiplier
      noteOn := (ampStage c s).noteOn } := by
  unfold ampStage
  split_ifs
  · rw [ampAdvance_frame, ampForceRelease_frame]
  · rfl

/-- The amplitude step takes `amplitude_sync` and writes its envelope, the level, `note_on` and the VCA output. -/
theorem amplitudeStep_frame (c : Tables) (s : State) :
    amplitudeStep c s = { s with
      sync.amplitude := false
      amp := (amplitudeStep c s).amp
      adsrMultiplier := (amplitudeStep c s).adsrMultiplier
      noteOn := (amplitudeStep c s).noteOn
      vcaOut := (amplitudeStep c s).vcaOut } := by
  unfold amplitudeStep vcaWrite
  rw [ampStage_frame, ampSyncTake_frame]

/-! ## Filter envelope and bus -/

theorem fltSyncTake_frame (s : State) :
    fltSyncTake s = { s with sync.filter := false, flt := (fltSyncTake s).flt } := by
  unfold fltSyncTake clearFilterSync
  split_ifs with h
  · rfl
  · rw [Bool.not_eq_true] at h
    rw [← h]

theorem fltForceRelease_frame (s : State) : fltForceRelease s = { s with flt := (fltForceRelease s).flt } := by
  unfold fltForceRelease
  split_ifs <;> rfl

theorem fltStageEnd_frame (s : State) : fltStageEnd s = { s with flt := (fltStageEnd s).flt } := by
  unfold fltStageEnd
  split <;> rfl

theorem fltStepOnce_frame (s : State) : fltStepOnce s = { s with flt := (fltStepOnce s).flt } := by
  unfold fltStepOnce
  split_ifs
  · rw [fltStageEnd_frame]
  · rfl

theorem fltTimed_frame (c : Tables) (p : Slot) (s : State) : fltTimed c p s = { s with flt := (fltTimed c p s).flt } := by
  unfold fltTimed
  split_ifs
  · rfl
  · rw [fltStepOnce_frame]

theorem fltAdvance_frame (c : Tables) (s : State) : fltAdvance c s = { s with flt := (fltAdvance c s).flt } := by
  unfold fltAdvance
  split_ifs
  · split
    · rw [fltTimed_frame]
    · rw [fltTimed_frame]
    · rfl
    · rw [fltTimed_frame]
  · rfl

/-- The envelope part of the filter job takes `filter_sync` and writes the filter registers. -/
theorem fltEnvelope_frame (c : Tables) (s : State) :
    fltEnvelope c s = { s with sync.filter := false, flt := (fltEnvelope c s).flt } := by
  unfold fltEnvelope
  rw [fltAdvance_frame, fltForceRelease_frame, fltSyncTake_frame]

theorem busState_frame (c : Tables) (s : State) :
    busState c s = { s with bus := (busState c s).bus, emitted := (busState c s).emitted } := by
  unfold busState State.emit
  split
  · dsimp only
    split_ifs <;> rfl
  · split_ifs <;> rfl
  · split_ifs <;> rfl
  · rfl

/-- The bus step writes the bus registers and the emitted list. -/
theorem busStep_frame (c : Tables) (s : State) :
    busStep c s = { s with bus := (busStep c s).bus, emitted := (busStep c s).emitted } := by
  unfold busStep
  rw [busState_frame]

/-- The filter job takes `filter_sync` and writes the filter and bus registers and the emitted list. -/
theorem filterJob_frame (c : Tables) (s : State) :
    filterJob c s = { s with
      sync.filter := false
      flt := (filterJob c s).flt
      bus := (filterJob c s).bus
      emitted := (filterJob c s).emitted } := by
  unfold filterJob fltCutoffWrite
  rw [busStep_frame, fltEnvelope_frame]

/-! ## Pitch -/

theorem glide_frame (c : Tables) (ps : Note) (s : State) :
    glide c ps s = { s with osc1 := (glide c ps s).osc1, osc2 := (glide c ps s).osc2 } := by
  unfold glide glideStep retarget
  split_ifs <;> rfl

/-- A retarget writes the target registers only. -/
theorem retargetOsc_frame (c : Tables) (shift : Int) (L : Nat) (o : OscRegs) :
    retargetOsc c shift L o = { o with
      targetNote := (retargetOsc c shift L o).targetNote
      targetFreq := (retargetOsc c shift L o).targetFreq
      inc := (retargetOsc c shift L o).inc
      count := 0
      total := (retargetOsc c shift L o).total } := rfl

/-- A glide step writes the frequency and the counter only. -/
theorem glideStepOsc_frame (o : OscRegs) :
    glideStepOsc o = { o with
      noteFrequency := (glideStepOsc o).noteFrequency
      count := (glideStepOsc o).count } := by
  unfold glideStepOsc
  split_ifs <;> rfl

/-- The pitch job writes the two oscillators' registers and `g_last_ps`. -/
theorem pitchJob_frame (c : Tables) (s : State) :
    pitchJob c s = { s with
      osc1 := (pitchJob c s).osc1
      osc2 := (pitchJob c s).osc2
      lastPs := (pitchJob c s).lastPs } := by
  unfold pitchJob
  dsimp only [pitchBookkeeping]
  split_ifs
  · rw [glide_frame]; rfl
  · rfl

/-! ## LFO -/

theorem lfoPhaseStep_frame (c : Tables) (s : State) :
    lfoPhaseStep c s = { s with sync.lfo := false, lfo.phase := (lfoPhaseStep c s).lfo.phase } := by
  unfold lfoPhaseStep clearLfoSync
  split_ifs <;> rfl

theorem lfoHandBack_frame (d : Slot) (s : State) :
    lfoHandBack d s =
      { s with store.value := (lfoHandBack d s).store.value, lfo.lastDest := d } := by
  unfold lfoHandBack
  split_ifs with h
  · rfl
  · have h' : d = s.lfo.lastDest := by simpa using h
    subst h'
    rfl

theorem lfoApply_frame (c : Tables) (d : Slot) (s : State) :
    lfoApply c d s = { s with
      store.value := (lfoApply c d s).store.value
      genLfo := (lfoApply c d s).genLfo
      samples.lfo := (lfoApply c d s).samples.lfo } := by
  unfold lfoApply evalWave State.setValue State.setGen State.setSample
  dsimp only
  split_ifs <;> rfl

/-- The LFO job takes `lfo_sync` and writes effective values, its registers, its generator record and its sample. -/
theorem lfoJob_frame (c : Tables) (s : State) :
    lfoJob c s = { s with
      store.value := (lfoJob c s).store.value
      sync.lfo := false
      lfo := (lfoJob c s).lfo
      genLfo := (lfoJob c s).genLfo
      samples.lfo := (lfoJob c s).samples.lfo } := by
  unfold lfoJob
  dsimp only
  rw [lfoApply_frame, lfoHandBack_frame, lfoPhaseStep_frame]

/-! ## Scheduler -/

/-- The operation of a job runs it. -/
theorem exec_jobInstr (j : Job) (s : State) : exec (jobInstr j) s = .next (runJob Config.tables j s) := by
  cases j <;> rfl

/-- A job leaves the scheduler's own state, the amplitude envelope and the words to come. -/
theorem runJob_frame (c : Tables) (j : Job) (s : State) :
    runJob c j s = { runJob c j s with
      rrState := s.rrState
      slowPending := s.slowPending
      overrun := s.overrun
      noteOn := s.noteOn
      keyDown := s.keyDown
      velocity := s.velocity
      adsrMultiplier := s.adsrMultiplier
      amp := s.amp
      vcaOut := s.vcaOut
      sync.amplitude := s.sync.amplitude
      sync.oscillator := s.sync.oscillator
      inbox := s.inbox } := by
  cases j <;> simp only [runJob]
  · conv_rhs => rw [filterJob_frame]
    rw [filterJob_frame]
  · rfl
  · conv_rhs => rw [pitchJob_frame]
    rw [pitchJob_frame]
  · conv_rhs => rw [lfoJob_frame]
    rw [lfoJob_frame]

/-- MAIN_STEP with a tick pending. -/
theorem mainStep_pending (c : Tables) {s : State} (h : s.slowPending = true) :
    mainStep c s = advanceRoundRobin (runJob c s.rrState (amplitudeStep c (clearSlowPending s))) := by
  rw [mainStep, if_pos h]

/-- MAIN_STEP with none pending. -/
theorem mainStep_idle (c : Tables) {s : State} (h : s.slowPending = false) : mainStep c s = s := by
  rw [mainStep, if_neg (by simp [h])]

/-- The take of `oscillator_sync` clears it, and writes the two phases. -/
theorem audioSyncTake_frame (s : State) :
    ∃ p q, audioSyncTake s = { s with sync.oscillator := false, osc1.phase := p, osc2.phase := q } := by
  unfold audioSyncTake clearOscillatorSync
  split_ifs with h
  · exact ⟨_, _, rfl⟩
  · rw [Bool.not_eq_true] at h
    exact ⟨s.osc1.phase, s.osc2.phase, by rw [← h]⟩

/-- AUDIO_TICK writes the phases, the generator records and samples of the two oscillators, `lp_out`, `audio_out`, and takes
`oscillator_sync`. -/
theorem audioTick_frame (c : Tables) (s : State) :
    audioTick c s = { s with
      osc1.phase := (audioTick c s).osc1.phase
      osc2.phase := (audioTick c s).osc2.phase
      gen1 := (audioTick c s).gen1
      gen2 := (audioTick c s).gen2
      samples.osc1 := (audioTick c s).samples.osc1
      samples.osc2 := (audioTick c s).samples.osc2
      lpOut := (audioTick c s).lpOut
      audioOut := (audioTick c s).audioOut
      sync.oscillator := (audioTick c s).sync.oscillator } := by
  obtain ⟨p, q, hs⟩ := audioSyncTake_frame s
  unfold audioTick
  split_ifs
  · rw [hs]; rfl
  · rfl

/-! ## Host events -/

theorem inject_frame (c : Tables) (p : Slot) (b : Byte) (s : State) :
    inject c p b s = { s with store := (inject c p b s).store } := by
  unfold inject applyUnlessDest
  split_ifs <;> rfl

theorem knobReading_frame (c : Tables) (p : Slot) (b : Byte) (s : State) :
    knobReading c p b s = { s with store := (knobReading c p b s).store } := by
  unfold knobReading applyUnlessDest
  split_ifs <;> rfl

/-! ## A step -/

/-- What a step answers next is: the state itself when no word waits; else what the decoded operation answers, or the state with a
reserved word taken. -/
theorem step_cases {s t : State} (h : deliver s = .next t) :
    (s.inbox = [] ∧ t = s) ∨
    (∃ w rest, s.inbox = w :: rest ∧
      ((∃ i, decode (.event w) = .ok i ∧ exec i (beginOperation rest s) = .next t) ∨
       (∃ op, decode (.event w) = .error (.reservedOp op) ∧ t = beginOperation rest s))) := by
  unfold deliver at h
  split at h
  · rename_i hb
    cases h
    exact .inl ⟨hb, rfl⟩
  · rename_i w rest hb
    refine .inr ⟨w, rest, hb, ?_⟩
    unfold perform at h
    split at h
    · rename_i i hi
      exact .inl ⟨i, hi, h⟩
    · rename_i op hop
      cases h
      exact .inr ⟨op, hop, rfl⟩

end Sys2Proof.Machine
end

