-- ==== Sys2Proof/Laws/PerInstr.lean ====
section
/-! SUPPORT. A family of facts about every operation as syntax: its code, as the encoder writes it, selects the operation's own row
of spec/opcode_table.json by mask and match (R103, R106, R108). -/

namespace Sys2Proof.Laws.EncodeMatchesRow

/-- The code of an operation selects its row. -/
def Statement (i : Instr) : Prop := i.row.selectedBy (encode i) = true

/-- An event word selects any row whose match holds the word's `op`. -/
theorem ofEvent (m : String) (op a b : Byte) (k : Nat) (h : op.toNat * 65536 = k) :
    (Row.mk m .ev k 0xFF0000).selectedBy (.event (eventWord op a b)) = true := by
  simp [Row.selectedBy, Code.format, Code.bits, and_opMask, h]

/-- The statement is the selection. -/
theorem ofSelected {i : Instr} (h : i.row.selectedBy (encode i) = true) : Statement i := h

theorem nop : Statement .nop := ofEvent _ _ _ _ _ rfl
theorem audioTick : Statement .audioTick := ofEvent _ _ _ _ _ rfl
theorem slowTick : Statement .slowTick := ofEvent _ _ _ _ _ rfl
theorem mainStep : Statement .mainStep := ofEvent _ _ _ _ _ rfl
theorem noteOn (note velocity : Byte) : Statement (.noteOn note velocity) := ofEvent _ _ _ _ _ rfl
theorem noteOff (note : Byte) : Statement (.noteOff note) := ofEvent _ _ _ _ _ rfl
theorem controlChange (controller value : Byte) : Statement (.controlChange controller value) := ofEvent _ _ _ _ _ rfl
theorem pitchBend (value : Byte) : Statement (.pitchBend value) := ofEvent _ _ _ _ _ rfl
theorem knob (slot value : Byte) : Statement (.knob slot value) := ofEvent _ _ _ _ _ rfl
theorem reset : Statement .reset := ofEvent _ _ _ _ _ rfl
theorem busReady (level : Bool) : Statement (.busReady level) := ofEvent _ _ _ _ _ rfl
theorem wSine (g : Gen) : Statement (.wSine g) := by cases g <;> exact ofSelected (by decide)
theorem wRamp (g : Gen) : Statement (.wRamp g) := by cases g <;> exact ofSelected (by decide)
theorem wTriangle (g : Gen) : Statement (.wTriangle g) := by cases g <;> exact ofSelected (by decide)
theorem wSquare (g : Gen) : Statement (.wSquare g) := by cases g <;> exact ofSelected (by decide)
theorem wRawSquare (g : Gen) : Statement (.wRawSquare g) := by cases g <;> exact ofSelected (by decide)
theorem wSyncSquare (g : Gen) : Statement (.wSyncSquare g) := by cases g <;> exact ofSelected (by decide)
theorem wNoise (g : Gen) : Statement (.wNoise g) := by cases g <;> exact ofSelected (by decide)
theorem wMorph0 (g : Gen) : Statement (.wMorph0 g) := by cases g <;> exact ofSelected (by decide)
theorem wMorph1 (g : Gen) : Statement (.wMorph1 g) := by cases g <;> exact ofSelected (by decide)
theorem wMorph2 (g : Gen) : Statement (.wMorph2 g) := by cases g <;> exact ofSelected (by decide)
theorem wMorph3 (g : Gen) : Statement (.wMorph3 g) := by cases g <;> exact ofSelected (by decide)
theorem wMorph4 (g : Gen) : Statement (.wMorph4 g) := by cases g <;> exact ofSelected (by decide)
theorem wMorph5 (g : Gen) : Statement (.wMorph5 g) := by cases g <;> exact ofSelected (by decide)
theorem wMorph6 (g : Gen) : Statement (.wMorph6 g) := by cases g <;> exact ofSelected (by decide)
theorem wMorph7 (g : Gen) : Statement (.wMorph7 g) := by cases g <;> exact ofSelected (by decide)
theorem wMorph8 (g : Gen) : Statement (.wMorph8 g) := by cases g <;> exact ofSelected (by decide)
theorem jobFilter : Statement .jobFilter := ofSelected (by decide)
theorem jobKnob : Statement .jobKnob := ofSelected (by decide)
theorem jobPitch : Statement .jobPitch := ofSelected (by decide)
theorem jobLfo : Statement .jobLfo := ofSelected (by decide)

end Sys2Proof.Laws.EncodeMatchesRow
end

