-- ==== Sys2Proof/Laws/Tables.lean ====
section
/-! SUPPORT. The constrained OPEN tables of R6: an admissible raw content is read back unchanged, so nothing admissible is shut out
(assumption log 2). -/

namespace Sys2Proof.Machine

open Sys2Proof.Config (Tables)

/-- The running maximum of a non-decreasing sequence is the sequence. -/
theorem runningMax_of_monotone {f : Nat → Nat} {n : Nat} (h : ∀ i, i < n → f i ≤ f (i + 1)) : runningMax f n = f n := by
  induction n with
  | zero => rfl
  | succ n ih =>
    rw [runningMax, ih fun i hi => h i (by omega)]
    exact max_eq_right (h n (by omega))

/-- The running maximum never falls. -/
theorem runningMax_mono (f : Nat → Nat) {m n : Nat} (h : m ≤ n) : runningMax f m ≤ runningMax f n := by
  induction h with
  | refl => exact le_rfl
  | step _ ih => rw [runningMax]; omega

/-- The running maximum of a bounded sequence is bounded. -/
theorem runningMax_le (f : Nat → Nat) {top : Nat} (h : ∀ i, f i ≤ top) (n : Nat) : runningMax f n ≤ top := by
  induction n with
  | zero => exact h 0
  | succ n ih => rw [runningMax]; have := h (n + 1); omega

/-- A non-decreasing raw `NOTE_FREQ` is the table. -/
theorem noteFreq_of_admissible (c : Tables)
    (h : ∀ i, i < 127 → (c.noteFreqRaw (BitVec.ofNat 7 i)).toNat ≤ (c.noteFreqRaw (BitVec.ofNat 7 (i + 1))).toNat)
    (n : Note) : noteFreq c n = c.noteFreqRaw n := by
  have hn := n.isLt
  rw [noteFreq, runningMax_of_monotone fun i hi => h i (by omega)]
  simp

/-- A non-decreasing raw `ANTILOG_BREAK` is the table. -/
theorem antilogBreak_of_admissible (c : Tables)
    (h : ∀ i, i < 8 → (c.antilogRaw (Fin.ofNat 9 i)).toNat ≤ (c.antilogRaw (Fin.ofNat 9 (i + 1))).toNat)
    (j : Fin 9) : antilogBreak c j = c.antilogRaw j := by
  have hj := j.isLt
  rw [antilogBreak, runningMax_of_monotone fun i hi => h i (by omega)]
  simp

/-- Some entry of `LFO_DEST_TABLE` is AMPLITUDE and some entry is PITCH_SHIFT. -/
theorem lfoDestEntry_has_both (c : Tables) :
    (∃ i, lfoDestEntry c i = SlotNo.amplitude) ∧ (∃ i, lfoDestEntry c i = SlotNo.pitchShift) := by
  refine ⟨⟨c.lfoDestAmpAt, by simp [lfoDestEntry]⟩,
    ⟨c.lfoDestAmpAt + 1 + BitVec.ofNat 3 c.lfoDestPitchAfter.val, ?_⟩⟩
  have ne : ∀ (a : BitVec 3) (k : Fin 7), a + 1 + BitVec.ofNat 3 k.val ≠ a := by decide
  rw [lfoDestEntry, if_neg (ne _ _), if_pos rfl]

/-- An admissible `LFO_DEST_TABLE` is the table, once the places of its two named entries are given. -/
theorem lfoDestEntry_of_admissible (c : Tables) (ha : c.lfoDestRaw c.lfoDestAmpAt = SlotNo.amplitude)
    (hp : c.lfoDestRaw (c.lfoDestAmpAt + 1 + BitVec.ofNat 3 c.lfoDestPitchAfter.val) = SlotNo.pitchShift)
    (i : BitVec 3) : lfoDestEntry c i = c.lfoDestRaw i := by
  unfold lfoDestEntry
  split_ifs with h1 h2
  · rw [h1, ha]
  · rw [h2, hp]
  · rfl

end Sys2Proof.Machine
end

