-- ==== Sys2Proof/Tests/Slice0.lean ====
section
/-! SUPPORT. Tests: refused ill-formed terms, words written out from the encodings, one-step vectors of spec/95_test_vectors.md under
its test configuration TC (which is no device fact), and for every statement with hypotheses a state and operands that meet them. -/

namespace Sys2Proof.Tests

open Sys2Proof.Machine

/-! ## Ill-formed terms are refused -/

theorem test_illFormed_notes :
    (Instr.noteOn 128 0).wellFormed = false ∧ (Instr.noteOn 0 128).wellFormed = false ∧
      (Instr.noteOff 128).wellFormed = false := by decide

theorem test_illFormed_slots :
    (Instr.controlChange 32 0).wellFormed = false ∧ (Instr.knob 32 0).wellFormed = false := by decide

theorem test_illFormed_lfoSquares :
    (Instr.wRawSquare .lfo).wellFormed = false ∧ (Instr.wSyncSquare .lfo).wellFormed = false := by decide

/-! ## Decoding words written out from spec/30_encoding.md -/

/-- R101, R103: `op` in bits 23:16, `a` in 15:8, `b` in 7:0. -/
theorem test_decode_events :
    decode (.event 0b00000000_11111111_11111111) = .ok .nop ∧
    decode (.event 0b00000001_00000000_00000000) = .ok .audioTick ∧
    decode (.event 0b00000010_00000000_00000000) = .ok .slowTick ∧
    decode (.event 0b00000011_00000000_00000000) = .ok .mainStep ∧
    decode (.event 0b00000100_00111100_01100100) = .ok (.noteOn 60 100) ∧
    decode (.event 0b00000101_00111100_01111111) = .ok (.noteOff 60) ∧
    decode (.event 0b00000110_00101000_00001001) = .ok (.controlChange 31 9) ∧
    decode (.event 0b00000111_11111111_11001000) = .ok (.pitchBend 200) ∧
    decode (.event 0b00001000_00010111_01100000) = .ok (.knob 23 96) ∧
    decode (.event 0b00001001_00000000_00000000) = .ok .reset ∧
    decode (.event 0b00001010_11111111_00000001) = .ok (.busReady true) := by decide

/-- V-EV1, V-EV2: operands are clamped. -/
theorem test_decode_clamped :
    decode (.event 0x04C8C8) = .ok (.noteOn 127 127) ∧ decode (.event 0x05BC00) = .ok (.noteOff 127) ∧
      decode (.event 0x08FF07) = .ok (.knob 31 7) ∧ decode (.event 0x0A00FE) = .ok (.busReady false) := by decide

/-- R104, U1: reserved words. -/
theorem test_decode_reserved :
    decode (.event 0x0B1234) = .error (.reservedOp 0x0B) ∧ decode (.event 0xFF0000) = .error (.reservedOp 0xFF) := by decide

/-- R106: the sixteen ids of an oscillator. -/
theorem test_decode_waves :
    decode (.wave .osc1 0b0000) = .ok (.wSine .osc1) ∧ decode (.wave .osc2 0b0001) = .ok (.wRamp .osc2) ∧
    decode (.wave .osc1 0b0010) = .ok (.wTriangle .osc1) ∧ decode (.wave .osc2 0b0011) = .ok (.wSquare .osc2) ∧
    decode (.wave .osc1 0b0100) = .ok (.wRawSquare .osc1) ∧ decode (.wave .osc2 0b0101) = .ok (.wSyncSquare .osc2) ∧
    decode (.wave .lfo 0b0110) = .ok (.wNoise .lfo) ∧ decode (.wave .lfo 0b0111) = .ok (.wMorph0 .lfo) ∧
    decode (.wave .osc1 0b1000) = .ok (.wMorph1 .osc1) ∧ decode (.wave .osc1 0b1001) = .ok (.wMorph2 .osc1) ∧
    decode (.wave .osc1 0b1010) = .ok (.wMorph3 .osc1) ∧ decode (.wave .osc1 0b1011) = .ok (.wMorph4 .osc1) ∧
    decode (.wave .osc1 0b1100) = .ok (.wMorph5 .osc1) ∧ decode (.wave .osc1 0b1101) = .ok (.wMorph6 .osc1) ∧
    decode (.wave .osc1 0b1110) = .ok (.wMorph7 .osc1) ∧ decode (.wave .osc1 0b1111) = .ok (.wMorph8 .osc1) := by decide

/-- R107: the LFO evaluates id 3 for ids 4 and 5. -/
theorem test_decode_lfoSquares :
    decode (.wave .lfo 4) = .ok (.wSquare .lfo) ∧ decode (.wave .lfo 5) = .ok (.wSquare .lfo) := by decide

/-- R108. -/
theorem test_decode_jobs :
    decode (.job 0b00) = .ok .jobFilter ∧ decode (.job 0b01) = .ok .jobKnob ∧
      decode (.job 0b10) = .ok .jobPitch ∧ decode (.job 0b11) = .ok .jobLfo := by decide

/-- The host's table words, one for each format (assumption log 7). -/
theorem test_tableWords :
    decodeTableWord 24 0x060000 = some (.controlChange 0 0) ∧ decodeTableWord 8 0xC = some (.wMorph5 .osc1) ∧
      decodeTableWord 2 3 = some .jobLfo ∧ decodeTableWord 24 0x0B0000 = none := by decide

/-- R114: two ticks. -/
theorem test_traceTicks : traceTicks 2 = [0x020000, 0x030000, 0x020000, 0x030000] := by decide

/-! ## The test configuration TC -/

/-- `SINE` of TC. -/
def tcSine (i : Byte) : Byte :=
  let n := i.toNat
  BitVec.ofNat 8 (if n < 128 then 128 + n * (128 - n) * 127 / 4096 else 128 - (n - 128) * (256 - n) * 127 / 4096)

/-- The triangle's `t(i)` of TC. -/
def tcFold (n : Nat) : Nat := if n < 128 then 2 * n else 2 * (255 - n)

/-- The tables of TC (spec/95_test_vectors.md section 1). -/
def tc : Config.Tables where
  sine := tcSine
  rampBank b i := BitVec.ofNat 8 (i.toNat * (32 + b.toNat) / 64 + 2 * (31 - b.toNat))
  triBank b i := BitVec.ofNat 8 (tcFold i.toNat * (32 + b.toNat) / 64 + 2 * (31 - b.toNat))
  rawSq := Config.defaultRawSq
  syncSq i := if 3 * i.toNat / 128 % 2 = 1 then 255 else 0
  morphFn _ _ _ mi := mi
  noteFreqRaw n := BitVec.ofNat 16 (64 + 16 * n.toNat + n.toNat * n.toNat / 2)
  lfoRate r := BitVec.ofNat 16 ((16 + 4 * (r.toNat % 4)) * 2 ^ (r.toNat / 4))
  lfoDestRaw := Config.defaultLfoDest
  lfoDestAmpAt := 0
  lfoDestPitchAfter := 2
  envRate k :=
    let n := k.toNat
    if n < 64 then (BitVec.ofNat 8 (n / 8), .four)
    else if n < 128 then (BitVec.ofNat 8 (4 + (n - 64) / 4), .two)
    else (BitVec.ofNat 8 (10 + (n - 128) / 2), .one)
  fltRate k := BitVec.ofNat 8 (k.toNat / 16)
  antilogRaw := Config.defaultAntilogBreak
  resetParam := Config.defaultResetParam
  slowDivLessOne := 0

/-- The reset state under TC. -/
def base : State := State.resetWith tc

/-- `base` with a note sounding on both oscillators, at the frequency of note 60. -/
def sounding : State :=
  { base with
    noteOn := true
    keyDown := true
    osc1.noteIndex := 60
    osc1.noteFrequency := 2824
    osc2.noteIndex := 60
    osc2.noteFrequency := 2824 }

/-- The outcome is a next state with the property. -/
def nextHas (o : Host.Outcome State Fault Refusal) (p : State → Bool) : Bool :=
  match o with
  | .next t => p t
  | .fault _ => false
  | .refused _ => false

/-! ## Scheduler vectors -/

/-- V-AT1. -/
theorem test_audioTick_sounding :
    let t := audioTick tc
      (((sounding.setValue SlotNo.osc2Waveshape 0x10).setValue SlotNo.oscMix 128).setSample .lfo 9 |> setSyncFlags)
    t.osc1.phase = 0x0B08 ∧ t.samples.osc1 = 167 ∧ t.samples.osc2 = 40 ∧ t.audioOut = 121 ∧
      t.sync.oscillator = false := by decide

/-- V-AT2. -/
theorem test_audioTick_silent :
    let t := audioTick tc { setSyncFlags base with lpOut := 77, osc1.phase := 0x1234, osc2.phase := 0x5678 }
    t.audioOut = 128 ∧ t.lpOut = 128 ∧ t.osc1.phase = 0 ∧ t.sync.oscillator = true := by decide

/-- V-AT4. -/
theorem test_mixer :
    mixSamples 200 100 64 = 175 ∧ mixSamples 200 100 255 = 100 ∧ mixSamples 100 200 255 = 199 := by decide

/-- V-AT5. -/
theorem test_smooth :
    smooth 100 103 = 100 ∧ smooth 103 100 = 102 ∧ smooth 0 255 = 63 ∧ smooth 255 0 = 191 := by decide

/-- V-ST1. -/
theorem test_slowTick :
    (setSlowPending base).overrun = false ∧ (setSlowPending { base with slowPending := true }).overrun = true := by decide

/-- V-MS1: the first main step emits `BusWrite(0, 0)` and moves both sequencers. -/
theorem test_mainStep_first :
    let t := mainStep tc { base with slowPending := true }
    t.emitted = [⟨.freq1, 0⟩] ∧ t.rrState = .knob ∧ t.bus.state = .f2 ∧ t.slowPending = false := by decide

/-- V-MS1: with nothing pending, nothing. -/
theorem test_mainStep_idle : mainStep tc { base with rrState := .pitch } = { base with rrState := .pitch } := by decide

/-! ## Waveform vectors -/

/-- V-SN. -/
theorem test_sine :
    sineWave tc 0x0BC0 = 170 ∧ sineWave tc 0xFF80 = 126 ∧ sineWave tc 0x4001 = 254 := by decide

/-- V-RP. -/
theorem test_ramp :
    rampWave tc 0 60 = 33 ∧ rampWave tc 0 61 = 32 ∧ rampWave tc 0 3 = 61 ∧ rampWave tc 0x0B08 62 = 39 := by decide

/-- V-TR. -/
theorem test_triangle :
    triangleWave tc 0x2000 0 = 94 ∧ triangleWave tc 0x2000 63 = 78 ∧ triangleWave tc 0x8000 127 = 250 := by decide

/-- V-SQ. -/
theorem test_square :
    squareWave tc 0x0B08 60 = 35 ∧ squareWave tc 0x8B08 60 = 221 ∧ squareWave tc 0x4000 127 = 2 := by decide

/-- V-RS. -/
theorem test_rawSquare : rawSquareWave tc 0x7FFF = 0 ∧ rawSquareWave tc 0x8000 = 255 := by decide

/-- V-SS. -/
theorem test_syncSquare : syncSquareWave tc 0x2B00 = 255 ∧ syncSquareWave tc 0x2A00 = 0 := by decide

/-- V-NZ1: the first steps. -/
theorem test_noise : lfsrStep 0xACE1 = 0x59C3 ∧ lfsrStep 0x59C3 = 0xB387 ∧ lfsrStep 0xB387 = 0x670F := by decide

/-- V-MO: the step of the morph record. -/
theorem test_morphStep :
    morphStep ⟨255, 0, 1⟩ 9 = ⟨0, 9, 1⟩ ∧ morphStep ⟨1, 2, 1⟩ 2 = ⟨1, 1, 1⟩ := by decide

/-- V-MO: the reference instances. -/
theorem test_referenceMorphs :
    referenceMorph0 tc 0x4000 128 = 191 ∧ referenceMorph0 tc 0xC000 128 = 64 ∧ referenceMorph1 tc 0x5000 32 = 127 := by
  decide

/-- An oscillator's noise leaves the LFO's register alone; the sample is the low byte. -/
theorem test_noise_owner :
    nextHas (exec (.wNoise .osc2) base) (fun t =>
      t.gen2.lfsr = 0x59C3 ∧ t.samples.osc2 = 195 ∧ t.genLfo.lfsr = 0xACE1 ∧ t.gen1.lfsr = 0xACE1) = true := by decide

/-! ## Pitch vectors -/

/-- V-PG2. -/
theorem test_detune :
    detunedNote 60 23 = 67 ∧ detunedNote 5 0 = 0 ∧ detunedNote 120 31 = 127 := by decide

/-- V-PG3, V-PG8. -/
theorem test_pitchShift : pitchShift 100 = 9 ∧ pitchShift 127 = 15 ∧ pitchShift 0 = -16 ∧ pitchShift 61 = 0 := by decide

/-- V-PG2, clamp low: the direct table lookup. -/
theorem test_pitch_bypass :
    let t := pitchJob tc { base.setValue SlotNo.oscDetune 0 with osc1.noteIndex := 5 }
    t.osc1.noteFrequency = 156 ∧ t.osc2.noteFrequency = 64 ∧ t.osc2.noteIndex = 0 ∧ t.osc1.total = 0 := by decide

/-- V-PG6: the increment of a downward glide is not floored. -/
theorem test_glideInc : glideInc (-1088) 7 = -8 ∧ glideInc 76 7 = 1 ∧ glideInc 724 7 = 5 ∧ glideTotal 76 7 = 76 := by decide

/-- V-PG8: a bend to the bottom retargets to note 0 and takes one step. -/
theorem test_pitch_glide :
    let t := pitchJob tc { base.setValue SlotNo.pitchShift 0 with osc1.noteIndex := 5 }
    t.osc1.targetNote = 0 ∧ t.osc1.targetFreq = 64 ∧ t.osc1.inc = 1 ∧ t.osc1.total = 64 ∧ t.osc1.noteFrequency = 1 ∧
      t.lastPs = 0 := by decide

/-! ## Amplitude-envelope vectors -/

/-- V-AE4. -/
theorem test_ampCeiling : ampCeiling 127 = 253 ∧ ampCeiling 100 = 209 ∧ ampCeiling 0 = 47 := by decide

/-- V-AE1, first step. -/
theorem test_amp_attack :
    let t := amplitudeStep tc (noteOn 60 100 base)
    t.adsrMultiplier = 51 ∧ t.amp.ceiling = 209 ∧ t.amp.phase = .attack ∧ t.vcaOut = 50 := by decide

/-- V-AE8: the note ends in the step that started it. -/
theorem test_amp_release :
    let t := amplitudeStep tc (noteOff 60 (noteOn 60 100 base))
    t.noteOn = false ∧ t.amp.phase = .attack ∧ t.adsrMultiplier = 47 := by decide

/-- V-AE6. -/
theorem test_vca : vcaValue 193 128 = 96 ∧ vcaValue 193 64 = 48 ∧ vcaValue 193 0 = 47 := by decide

/-! ## Filter and bus vectors -/

/-- V-FE1. -/
theorem test_antilog :
    antilog tc 31 = 3 ∧ antilog tc 101 = 19 ∧ antilog tc 191 = 93 ∧ antilog tc 255 = 252 := by decide

/-- V-FE9. -/
theorem test_cutoff :
    cutoffValue 100 32512 = 255 ∧ cutoffValue 100 (-32768) = 0 ∧ cutoffValue 100 (-1) = 99 ∧ cutoffValue 100 128 = 101 := by
  decide

/-- V-FE2, filter job 1. -/
theorem test_filter_negative :
    let t := filterJob tc ((noteOn 60 100 (base.setValue SlotNo.filterEnvAmount 0)).setValue SlotNo.filterCutoff 200)
    t.flt.peak = -32768 ∧ t.flt.slope = -256 ∧ t.flt.adder = -256 ∧ t.flt.cutoff = 198 ∧ t.emitted = [⟨.freq1, 107⟩] := by
  decide

/-- V-FE4: a bus not ready writes nothing and remembers nothing. -/
theorem test_bus_notReady :
    let t := filterJob tc { base with bus.ready := false }
    t.emitted = [] ∧ t.bus.lastF1 = 0x100 ∧ t.bus.state = .f2 := by decide

/-! ## LFO vectors -/

/-- V-LF2, job 1. -/
theorem test_lfo_modulates :
    let s := ((base.setValue SlotNo.lfoDest 32).setRawReading SlotNo.filterCutoff 100).setValue SlotNo.lfoRate 200
    let t := lfoJob tc (s.setValue SlotNo.lfoAmount 64)
    t.lfo.phase = 0x0500 ∧ t.value SlotNo.filterCutoff = 109 ∧ t.lfo.lastDest = SlotNo.filterCutoff ∧
      t.value SlotNo.amplitude = 255 := by decide

/-- V-LF12: at the most bypassed amount the destination follows its governing source. -/
theorem test_lfo_bypass :
    let s := ((base.setValue SlotNo.lfoDest 96).setOverride SlotNo.pitchShift 200).setSource SlotNo.pitchShift .external
    (lfoJob tc (s.setValue SlotNo.lfoAmount 1)).value SlotNo.pitchShift = 200 := by decide

/-! ## Host-event vectors -/

/-- V-EV3: controllers 0, 1, 2 address slot 0; controllers above 31 slot 31. -/
theorem test_controllerSlot :
    controllerSlot 1 = 0 ∧ controllerSlot 2 = 0 ∧ controllerSlot 3 = 3 ∧ controllerSlot 40 = 31 := by decide

/-- V-EV3: recorded but not applied at the LFO's destination. -/
theorem test_controlChange_owned :
    let t := inject tc (controllerSlot 10) 40 base
    t.override 10 = 40 ∧ t.source 10 = .external ∧ t.value 10 = 255 ∧ t.rawReading 10 = 255 := by decide

/-- V-EV4. -/
theorem test_pitchBend :
    let t := inject tc SlotNo.pitchShift 200 base
    t.override 7 = 200 ∧ t.value 7 = 200 ∧ t.source 7 = .external := by decide

/-- V-EV5: the tag comes back to Knob and the override stays. -/
theorem test_knob :
    let t := knobReading tc 15 50 (inject tc 15 200 base)
    t.value 15 = 50 ∧ t.source 15 = .knob ∧ t.override 15 = 200 := by decide

/-- V-EV2. -/
theorem test_noteOff :
    (noteOff 60 (noteOn 60 100 base)).keyDown = false ∧ (noteOff 61 (noteOn 60 100 base)).keyDown = true := by decide

/-- V-RS1. -/
theorem test_reset : resetEngine tc { noteOn 60 100 sounding with rrState := .lfo, overrun := true } = base := by decide

/-- V-EV6. -/
theorem test_busReady : nextHas (exec (.busReady false) base) (fun t => !t.bus.ready) = true := by decide

/-! ## Steps -/

/-- An empty inbox holds the state (R313). -/
theorem test_step_holds : step base = .next base := rfl

/-- A reserved word changes nothing but is consumed (R104). -/
theorem test_step_reserved : step { base with inbox := [0x0B1234] } = .next base := rfl

/-- A placed event word is the first operation after reset. -/
theorem test_step_placed :
    nextHas (step (State.reset.withFetchWord 24 0x043C64)) (fun t =>
      t.osc1.noteIndex = 60 ∧ t.velocity = 100 ∧ t.noteOn ∧ t.sync.filter) = true := by decide

/-- A placed waveform id is evaluated by the next step: the noise register of each oscillator moves. -/
theorem test_step_placedWave :
    nextHas (step (State.reset.withFetchWord 8 6)) (fun t => t.gen1.lfsr = 0x59C3 ∧ t.gen2.lfsr = 0x59C3) = true := by decide

/-- A placed job code has its turn in the next step. -/
theorem test_step_placedJob :
    nextHas (step (State.reset.withFetchWord 2 1)) (fun t => t.rrState = .pitch ∧ !t.slowPending) = true := by decide

/-! ## Witnesses: states and operands that meet the hypotheses of the statements -/

theorem witness_DecodeOfEncodeIsTheInstruction :
    (Instr.noteOn 127 127).wellFormed = true ∧ (Instr.knob 31 255).wellFormed = true ∧
      (Instr.wSyncSquare .osc2).wellFormed = true := by decide

theorem witness_DecodedInstructionsAreWellFormed :
    decode (.event 0x05FFFF) = .ok (.noteOff 127) ∧ decode (.wave .lfo 5) = .ok (.wSquare .lfo) := by decide

theorem witness_OperandsAreClampedAndUnusedFieldsIgnored :
    (0x09#8 ∈ [0x00#8, 0x01#8, 0x02#8, 0x03#8, 0x09#8]) ∧ (0x00#8 ∈ [0x00#8, 0x01#8, 0x02#8, 0x03#8, 0x09#8]) := by decide

theorem witness_EventWordsSelectRowsByMask :
    (Instr.busReady true).row.format = .ev ∧ (0x0AFFFF &&& (Instr.busReady true).row.mask = (Instr.busReady true).row.pattern) ∧
      ¬ (0x0BFFFF &&& (Instr.busReady true).row.mask = (Instr.busReady true).row.pattern) := by decide

theorem witness_ReservedOpsAreRejectedByTheDecoder :
    0x0B ≤ (0x0B#8).toNat ∧ 0x0B ≤ (0xFF#8).toNat ∧ (0x0A#8).toNat < 0x0B := by decide

theorem witness_StepPerformsTheDecodedEvent :
    ({ base with inbox := [0x043C64] } : State).inbox = 0x043C64 :: [] ∧
      decode (.event 0x043C64) = .ok (.noteOn 60 100) := by decide

theorem witness_AudioTickRunsTheSelectedWaveformOperations : sounding.noteOn = true := by decide

theorem witness_MainStepRunsAmplitudeThenTheSelectedJob :
    ({ base with slowPending := true } : State).slowPending = true ∧ ¬ base.slowPending = true := by decide

theorem witness_AudioTickProducesOneSample : sounding.noteOn = true ∧ ¬ base.noteOn = true := by decide

theorem witness_MixerCrossFadesWithoutSaturation :
    (0 : Byte) = 0 ∧ (255 : Byte) = 255 ∧ (100 : Byte).toNat ≤ (200 : Byte).toNat ∧
      ¬ (200 : Byte).toNat ≤ (100 : Byte).toNat := by decide

theorem witness_SmoothingMovesTowardTheMix :
    (0 : Byte).toNat < (1 : Byte).toNat ∧ ((252 : Byte).toNat ≤ (255 : Byte).toNat ∧ (255 : Byte).toNat ≤ (252 : Byte).toNat + 3) := by
  decide

theorem witness_RoundRobinSelectsEachJobOnceInFourConsumedTicks :
    ({ base with inbox := traceTicks 2 ++ [0x000000] } : State).inbox = traceTicks 2 ++ [0x000000] ∧
      Instr.jobLfo ≠ .mainStep ∧ Instr.jobLfo ≠ .reset ∧ exec .nop base = .next base :=
  ⟨by decide, by decide, by decide, rfl⟩

theorem witness_MissedSlowTickIsMergedAndRecorded :
    ({ base with inbox := [0x020000, 0x020000, 0x030000, 0x030000] } : State).inbox =
      0x020000 :: 0x020000 :: 0x030000 :: 0x030000 :: [] := by decide

theorem witness_RampAndTriangleBlendNeighbourBands :
    ∃ (T : BitVec 5 → Byte → Byte) (out : Byte), T = Config.tables.rampBank ∧ out = base.sample .osc1 :=
  ⟨_, _, rfl, rfl⟩

theorem witness_MorphOperationsStepThenEvaluateTheirRecipe :
    ((8 : Fin 9), Instr.wMorph8) ∈ [((0 : Fin 9), Instr.wMorph0), (1, Instr.wMorph1), (2, Instr.wMorph2), (3, Instr.wMorph3),
      (4, Instr.wMorph4), (5, Instr.wMorph5), (6, Instr.wMorph6), (7, Instr.wMorph7), (8, Instr.wMorph8)] := by simp

theorem witness_SyncArmsAttackAndKeyReleaseForcesRelease :
    (setSyncFlags base).sync.amplitude = true ∧ base.sync.amplitude = false ∧
      (base.keyDown = false ∧ base.amp.phase ≠ .release) ∧
      (let s := { sounding with keyDown := false }
       s.noteOn = true ∧ s.keyDown = false ∧ s.sync.amplitude = false ∧ s.amp.phase ≠ .release) := by decide

/-- Below the ceiling, and at it. -/
theorem witness_AttackRisesToTheCeilingThenDecays :
    let s := { sounding with amp.ceiling := 209 }
    (s.noteOn = true ∧ s.keyDown = true ∧ s.sync.amplitude = false ∧ s.amp.phase = .attack ∧ s.amp.timer = 0 ∧
      s.adsrMultiplier.toNat < s.amp.ceiling.toNat) ∧
    (sounding.amp.phase = .attack ∧ sounding.amp.timer = 0 ∧
      sounding.amp.ceiling.toNat ≤ sounding.adsrMultiplier.toNat ∧ 47 ≤ sounding.amp.ceiling.toNat) := by decide

theorem witness_DecayAndReleaseFallToTheirTargets :
    let s := { sounding with amp.phase := .decay, adsrMultiplier := 209, amp.sustain := 128 }
    let r := { sounding with amp.phase := .release, adsrMultiplier := 48 }
    (s.noteOn = true ∧ s.keyDown = true ∧ s.sync.amplitude = false ∧ s.amp.phase = .decay ∧ s.amp.timer = 0) ∧
    (r.noteOn = true ∧ r.sync.amplitude = false ∧ r.amp.phase = .release ∧ r.amp.timer = 0) := by decide

theorem witness_TimerGateSustainAndIdleHoldTheLevel :
    let s := { sounding with amp.timer := 1 }
    let r := { sounding with keyDown := false, amp.phase := .release, amp.timer := 1 }
    let u := { sounding with amp.phase := .sustain }
    (s.noteOn = true ∧ s.keyDown = true ∧ s.sync.amplitude = false ∧ s.amp.phase ≠ .sustain ∧ s.amp.timer ≠ 0) ∧
    (r.noteOn = true ∧ r.amp.phase = .release ∧ r.sync.amplitude = false ∧ r.amp.timer ≠ 0) ∧
    (u.noteOn = true ∧ u.keyDown = true ∧ u.sync.amplitude = false ∧ u.amp.phase = .sustain) ∧
    (base.noteOn = false ∧ base.sync.amplitude = false) := by decide

/-- A note at the floor, sounding, with its envelope armed. -/
theorem witness_AmplitudeLevelMovesByAtMostFour : AmpSafe { sounding with amp.ceiling := 253 } := by
  constructor <;> decide

/-- A step that starts a note. -/
theorem witness_EveryStepKeepsTheAmplitudeInvariant :
    AmpSafe { base with inbox := [0x043C64] } ∧
      step { base with inbox := [0x043C64] } = .next (noteOn 60 100 base) := by
  exact ⟨by constructor <;> decide, rfl⟩

/-- The envelope halfway through Attack, one unit a step. -/
def midAttack : State :=
  { sounding with
    flt.active := true
    flt.step := 64
    flt.adder := 8192
    flt.slope := 128
    flt.target := 16384
    flt.peak := 16384 }

theorem midAttack_safe : FilterSafe midAttack.flt := by
  constructor
  case path => exact fun _ _ => .inl (by decide)
  all_goals decide

theorem witness_FilterArmsFromTheCurrentAdder :
    ((setSyncFlags midAttack).sync.filter = true ∧ FilterSafe (setSyncFlags midAttack).flt) ∧
    (let s := { midAttack with keyDown := false }
     s.flt.active = true ∧ s.keyDown = false ∧ s.flt.phase ≠ .release ∧ FilterSafe s.flt) ∧
    (midAttack.sync.filter = false ∧ base.flt.active = false ∧ midAttack.keyDown = true ∧
      ({ midAttack with flt.phase := .release } : State).flt.phase = .release) :=
  ⟨⟨by decide, midAttack_safe⟩, ⟨by decide, by decide, by decide, midAttack_safe⟩, by decide⟩

/-- Each clause: one step, the last step short of the end, and the end. -/
theorem witness_FilterStageReachesItsTargetExactly :
    FilterSafe midAttack.flt ∧ midAttack.flt.active = true ∧ midAttack.flt.phase ≠ .sustain ∧
      ({ midAttack with flt.step := 126 } : State).flt.step.toNat < 127 ∧ midAttack.flt.step.toNat < 127 ∧ 63 < 128 - midAttack.flt.step.toNat ∧ ¬ 64 < 128 - midAttack.flt.step.toNat :=
  ⟨midAttack_safe, by decide, by decide, by decide, by decide, by decide, by decide⟩

/-- The last step of each stage. -/
theorem witness_FilterStageEndsFollowTheTable :
    (let s := { midAttack with flt.step := 127, flt.adder := 16256 }
     FilterSafe s.flt ∧ s.flt.active = true ∧ s.flt.step = 127 ∧ s.flt.phase = .attack) ∧
    (let s := { midAttack with flt.step := 127, flt.adder := 16256, flt.phase := .decay }
     FilterSafe s.flt ∧ s.flt.active = true ∧ s.flt.step = 127 ∧ s.flt.phase = .decay) ∧
    (let s := { midAttack with flt.step := 127, flt.adder := 128, flt.slope := -128, flt.target := 0, flt.phase := .release }
     FilterSafe s.flt ∧ s.flt.active = true ∧ s.flt.step = 127 ∧ s.flt.phase = .release) := by
  refine ⟨⟨?_, by decide, by decide, by decide⟩, ⟨?_, by decide, by decide, by decide⟩, ⟨?_, by decide, by decide, by decide⟩⟩
  · constructor
    case path => exact fun _ _ => .inl (by decide)
    all_goals decide
  · constructor
    case path => exact fun _ _ => .inl (by decide)
    all_goals decide
  · constructor
    case path => exact fun _ _ => .inr (by decide)
    all_goals decide

/-- Idle, Sustain, a running timer, and an expired one in each stage. -/
theorem witness_FilterJobWritesCutoffAndOneBusState :
    let s := { midAttack with flt.timer := 1 }
    base.flt.active = false ∧ ({ midAttack with flt.phase := .sustain } : State).flt.phase = .sustain ∧
      (s.flt.active = true ∧ s.flt.phase ≠ .sustain ∧ s.flt.timer ≠ 0) ∧
      ∀ q ∈ [Stage.attack, .decay, .release],
        let u := { midAttack with flt.phase := q }
        u.flt.active = true ∧ u.flt.timer = 0 ∧ u.flt.phase = q := by decide

theorem witness_BusSequencerSkipsUnchangedAndUnreadyWrites :
    base.bus.state = .f1 ∧ ({ base with bus.state := .f2 } : State).bus.state = .f2 ∧
      ({ base with bus.state := .res } : State).bus.state = .res ∧
      ({ base with bus.state := .wait } : State).bus.state = .wait ∧
      (base.bus.ready = true ∧ (base.value SlotNo.filterQ).toNat ≠ base.bus.lastQ.toNat ∧
        base.bus.latch.toNat ≠ base.bus.lastF2.toNat) := by decide

theorem witness_ResonanceIsServedWithinFourFilterJobs :
    base.bus.ready = true ∧ ∃ a b c d : State, exec .jobFilter base = .next a ∧ exec .jobFilter a = .next b ∧
      exec .jobFilter b = .next c ∧ exec .jobFilter c = .next d :=
  ⟨by decide, _, _, _, _, rfl, rfl, rfl, rfl⟩

theorem witness_EveryStepKeepsTheFilterInvariant :
    FilterSafe midAttack.flt ∧ step { midAttack with inbox := [0x053C00] } = .next { midAttack with keyDown := false } :=
  ⟨midAttack_safe, rfl⟩

theorem witness_BypassIsTheDirectTableLookup :
    (base.value SlotNo.pitchShift).toNat / 2 = 64 ∧ (base.value SlotNo.portamento).toNat = 0 ∧
      (base.value SlotNo.lfoAmount).toNat ≤ 1 := by decide

/-- Each of the three conditions: the last two on plain slots, the first through a destination slot that holds PITCH_SHIFT. -/
theorem witness_GlideRetargetsOnChangeThenSteps :
    ((base.setValue SlotNo.pitchShift 130).value SlotNo.pitchShift).toNat / 2 ≠ 64 ∧
      ((base.setValue SlotNo.portamento 1).value SlotNo.portamento).toNat ≠ 0 ∧
      ∃ s : State, dest Config.tables s = SlotNo.pitchShift ∧ 1 < (s.value SlotNo.lfoAmount).toNat := by
  obtain ⟨i, hi⟩ := (lfoDestEntry_has_both Config.tables).2
  refine ⟨by decide, by decide, (base.setValue SlotNo.lfoAmount 2).setValue SlotNo.lfoDest (i ++ 0#5), ?_, ?_⟩
  · have h : ∀ i : BitVec 3, (i ++ 0#5).extractLsb' 5 3 = i := by decide
    show lfoDestEntry Config.tables ((i ++ 0#5).extractLsb' 5 3) = _
    rw [h, hi]
  · show 1 < (2#8).toNat
    decide

theorem witness_RetargetFormsTheIncrement : (5 : Nat) ≤ 12 ∧ (12 : Nat) ≤ 12 := by decide

/-- An oscillator in mid-glide: one step, the last step short of the target, and the target; one that has arrived. -/
theorem witness_GlideReachesTheTargetExactly :
    let o : OscRegs := { sounding.osc1 with targetFreq := 3548, inc := 5, count := 1, total := 128, noteFrequency := 2829 }
    GlideSafe o ∧ o.count.toNat < o.total.toNat ∧ 126 < o.total.toNat - o.count.toNat ∧
      o.total.toNat - o.count.toNat ≤ 127 ∧ ({ o with count := 127 } : OscRegs).count.toNat + 1 = o.total.toNat ∧
      o.total.toNat ≤ ({ o with count := 128 } : OscRegs).count.toNat := by
  refine ⟨?_, by decide, by decide, by decide, by decide, by decide⟩
  constructor
  case path => exact .inl (by decide)
  all_goals decide

theorem witness_EveryStepKeepsTheGlideInvariant :
    GlideSafe base.osc1 ∧ GlideSafe base.osc2 ∧ step { base with inbox := [0x0A0000] } = .next (setBusReady false base) := by
  refine ⟨?_, ?_, rfl⟩
  · constructor
    case path => exact .inl (by decide)
    all_goals decide
  · constructor
    case path => exact .inl (by decide)
    all_goals decide

theorem witness_NoteFrequencyTableIsMonotone : (0 : Note).toNat ≤ (127 : Note).toNat := by decide

theorem witness_LfoPhaseResetsOnEnabledSyncOrAdvances :
    (let s := (setSyncFlags base).setValue SlotNo.lfoSync 128
     s.sync.lfo = true ∧ 128 ≤ (s.value SlotNo.lfoSync).toNat) ∧
    (let s := (setSyncFlags base).setValue SlotNo.lfoSync 127
     ¬ (s.sync.lfo = true ∧ 128 ≤ (s.value SlotNo.lfoSync).toNat)) := by decide

/-- The amount as JOB_LFO reads it: the slot just left (here not the amount's) has been given back. -/
theorem witness_LfoBypassDrivesTheDestinationFromItsSource :
    let s := { base.setValue SlotNo.lfoAmount 1 with lfo.lastDest := SlotNo.amplitude }
    ((if dest Config.tables s ≠ s.lfo.lastDest ∧ SlotNo.lfoAmount = s.lfo.lastDest then gov s SlotNo.lfoAmount
      else s.value SlotNo.lfoAmount)).toNat ≤ 1 := by
  dsimp only
  rw [if_neg fun h => absurd h.2 (by decide)]
  decide

theorem witness_LfoModulatesTheDestination :
    let s := { base.setValue SlotNo.lfoAmount 2 with lfo.lastDest := SlotNo.amplitude }
    1 < ((if dest Config.tables s ≠ s.lfo.lastDest ∧ SlotNo.lfoAmount = s.lfo.lastDest then gov s SlotNo.lfoAmount
      else s.value SlotNo.lfoAmount)).toNat := by
  dsimp only
  rw [if_neg fun h => absurd h.2 (by decide)]
  decide

/-- A destination just changed, and slots that JOB_LFO does not own. -/
theorem witness_LfoWritesOnlyItsSlotsAndRegisters :
    ∃ s : State, dest Config.tables s ≠ s.lfo.lastDest ∧ ∃ p : Slot, p ≠ dest Config.tables s ∧ p ≠ s.lfo.lastDest := by
  refine ⟨{ base with lfo.lastDest := dest Config.tables base + 1 }, ?_, dest Config.tables base + 2, ?_, ?_⟩
  all_goals
    show (_ : Slot) ≠ _
    have h : ∀ d : Slot, d ≠ d + 1 ∧ d + 2 ≠ d ∧ d + 2 ≠ d + 1 := by decide
  · exact (h (dest Config.tables base)).1
  · exact (h (dest Config.tables base)).2.1
  · exact (h (dest Config.tables base)).2.2

theorem witness_NoteOffReleasesOnlyTheSoundingNote :
    min (60 : Byte).toNat 127 = sounding.osc1.noteIndex.toNat ∧ ¬ min (61 : Byte).toNat 127 = sounding.osc1.noteIndex.toNat := by
  decide

/-- Controllers at the edges of the alias and of the clamp, the pitch bend, and slots at the clamp. -/
theorem witness_InjectedValuesAreRecordedAndAppliedUnlessLfoOwned :
    (SlotNo.lfoAmount.val = if min (2 : Byte).toNat 31 ≤ 2 then 0 else min (2 : Byte).toNat 31) ∧
    (SlotNo.osc1Waveshape.val = if min (3 : Byte).toNat 31 ≤ 2 then 0 else min (3 : Byte).toNat 31) ∧
    (SlotNo.rsv31.val = if min (255 : Byte).toNat 31 ≤ 2 then 0 else min (255 : Byte).toNat 31) ∧
    SlotNo.pitchShift.val = 7 ∧ SlotNo.rsv31.val = min (32 : Byte).toNat 31 ∧ SlotNo.lfoAmount.val = min (0 : Byte).toNat 31 := by
  decide

theorem witness_EveryStepKeepsTheCodesLegal :
    CodesSafe base ∧ step { base with inbox := [0x020000] } = .next (setSlowPending base) := by
  refine ⟨?_, rfl⟩
  constructor <;> decide

/-- Two states that differ where only AUDIO_TICK looks. -/
theorem witness_AudioTicksDoNotInfluenceTheMainLoop :
    (exec .audioTick base = .next (audioTick Config.tables base)) ∧
      mainView base = mainView { base with lpOut := 1, osc1.phase := 77 } ∧
      base ≠ { base with lpOut := 1, osc1.phase := 77 } ∧ exec .slowTick base = .next (setSlowPending base) :=
  ⟨rfl, by decide, by decide, rfl⟩

/-- Two states that differ where AUDIO_TICK does not look. -/
theorem witness_AudioOutputDependsOnlyOnItsInputs :
    SameAudioInputs sounding { sounding with velocity := 1, flt.cutoff := 9 } ∧
      sounding ≠ { sounding with velocity := 1, flt.cutoff := 9 } ∧
      ∃ u v : State, exec .audioTick sounding = .next u ∧
        exec .audioTick { sounding with velocity := 1, flt.cutoff := 9 } = .next v :=
  ⟨by constructor <;> decide, by decide, _, _, rfl, rfl⟩

end Sys2Proof.Tests
end

