-- ==== Sys2Proof/Proofs/NoteFrequency.lean ====
section
/-! PROOF. The note-to-frequency table as the model reads it (R6, R194). -/

namespace Sys2Proof.Machine

open Sys2Proof.Config (Tables)

/-- The 16-bit entry holds the running maximum without a wrap: no raw entry exceeds 16 bits, so neither does the largest. -/
theorem noteFreq_toNat (c : Tables) (n : Note) :
    (noteFreq c n).toNat = runningMax (fun i => (c.noteFreqRaw (BitVec.ofNat 7 i)).toNat) n.toNat := by
  have hle := runningMax_le (fun i => (c.noteFreqRaw (BitVec.ofNat 7 i)).toNat) (top := 65535)
    (fun i => Nat.le_of_lt_succ (c.noteFreqRaw (BitVec.ofNat 7 i)).isLt) n.toNat
  rw [noteFreq, BitVec.toNat_ofNat, Nat.mod_eq_of_lt (Nat.lt_succ_of_le hle)]

/-- The table never falls, for every raw content and not only the configured one. -/
theorem noteFreq_toNat_mono (c : Tables) {m n : Note} (h : m.toNat ≤ n.toNat) :
    (noteFreq c m).toNat ≤ (noteFreq c n).toNat := by
  rw [noteFreq_toNat, noteFreq_toNat]
  exact runningMax_mono _ h

/-- Settles O46: the table is a running maximum that fits its 16-bit entries, and a running maximum never falls. -/
theorem noteFrequencyTableIsMonotone : Obligations.NoteFrequencyTableIsMonotone :=
  fun _ _ h => noteFreq_toNat_mono Sys2Proof.Config.tables h

end Sys2Proof.Machine
end

section
/-! PROOF. The effect of NOTE_ON on the state (R282, R102). -/

namespace Sys2Proof.Machine

/-- R102's note clamp in plain numbers: `min(a, 127)` fits the seven bits of a note, so nothing is cut off. -/
theorem noteOperand_eq_ofNat (a : Byte) : noteOperand a = BitVec.ofNat 7 (min a.toNat 127) := by
  rw [noteOperand, ← BitVec.ofNat_toNat, clampNoteOperand_toNat]

/-- Dispatch hands NOTE_ON to its effect. -/
theorem exec_noteOn (a b : Byte) (s : State) : exec (.noteOn a b) s = .next (noteOn a b s) := rfl

/-- Settles O52: dispatch gives the effect of NOTE_ON, whose two operands are the clamped bytes; its other writes are
R282's flags. -/
theorem noteOnWritesNoteVelocityAndFlags : Obligations.NoteOnWritesNoteVelocityAndFlags := by
  intro a b s
  rw [exec_noteOn, noteOn, noteOperand_eq_ofNat, noteOperand_eq_ofNat, setSyncFlags]

end Sys2Proof.Machine
end

section
/-! PROOF. The three encoding spaces (spec/30_encoding.md R101 to R108): the event decoder code by code, the clamps it leaves, the
rows its words select, and the waveform and job codes. -/

namespace Sys2Proof

/-! ## The three kinds of operation -/

/-- Every operation is an event operation, the evaluation of a waveform for an owner, or a job (R100, R106, R108): the case split
by encoding space, so that the 16 waveform rows are one case. -/
theorem Instr.casesByKind {motive : Instr → Prop} (event : ∀ i : Instr, i.row.format = .ev → motive i)
    (wave : ∀ g w, motive (waveInstr g w)) (job : ∀ j, motive (jobInstr j)) (i : Instr) : motive i := by
  cases i with
  | wSine g => exact wave g .sine
  | wRamp g => exact wave g .ramp
  | wTriangle g => exact wave g .triangle
  | wSquare g => exact wave g .square
  | wRawSquare g => exact wave g .rawSquare
  | wSyncSquare g => exact wave g .syncSquare
  | wNoise g => exact wave g .noise
  | wMorph0 g => exact wave g (.morph 0)
  | wMorph1 g => exact wave g (.morph 1)
  | wMorph2 g => exact wave g (.morph 2)
  | wMorph3 g => exact wave g (.morph 3)
  | wMorph4 g => exact wave g (.morph 4)
  | wMorph5 g => exact wave g (.morph 5)
  | wMorph6 g => exact wave g (.morph 6)
  | wMorph7 g => exact wave g (.morph 7)
  | wMorph8 g => exact wave g (.morph 8)
  | jobFilter => exact job .filter
  | jobKnob => exact job .knob
  | jobPitch => exact job .pitch
  | jobLfo => exact job .lfo
  | _ => exact event _ rfl

/-! ## Event words -/

/-- The event decoder reads an assembled word field by field: the code chooses, the other two fields are operands. -/
theorem decode_eventWord (op a b : Byte) :
    decode (.event (eventWord op a b)) =
      match op.toNat with
      | 0x00 => .ok .nop
      | 0x01 => .ok .audioTick
      | 0x02 => .ok .slowTick
      | 0x03 => .ok .mainStep
      | 0x04 => .ok (.noteOn (clampNoteOperand a) (clampNoteOperand b))
      | 0x05 => .ok (.noteOff (clampNoteOperand a))
      | 0x06 => .ok (.controlChange (clampSlotOperand a) b)
      | 0x07 => .ok (.pitchBend b)
      | 0x08 => .ok (.knob (clampSlotOperand a) b)
      | 0x09 => .ok .reset
      | 0x0A => .ok (.busReady (b.getLsbD 0))
      | _ => .error (.reservedOp op) := by
  unfold decode decodeEvent
  simp only [eventOp_eventWord, eventA_eventWord, eventB_eventWord] <;> rfl

/-- A note or velocity operand in range is left alone by its clamp. -/
theorem clampNoteOperand_of_le {x : Byte} (h : x.toNat ≤ 127) : clampNoteOperand x = x := by
  apply BitVec.eq_of_toNat_eq
  rw [clampNoteOperand_toNat]
  omega

/-- A controller or slot operand in range is left alone by its clamp. -/
theorem clampSlotOperand_of_le {x : Byte} (h : x.toNat ≤ 31) : clampSlotOperand x = x := by
  apply BitVec.eq_of_toNat_eq
  rw [clampSlotOperand_toNat]
  omega

theorem clampNoteOperand_le (x : Byte) : (clampNoteOperand x).toNat ≤ 127 := by
  rw [clampNoteOperand_toNat]; omega

theorem clampSlotOperand_le (x : Byte) : (clampSlotOperand x).toNat ≤ 31 := by
  rw [clampSlotOperand_toNat]; omega

/-- Bit 0 of an operand is its parity (R105, R288). -/
theorem getLsbD_zero_eq_odd (b : Byte) : b.getLsbD 0 = decide (b.toNat % 2 = 1) := by
  rw [BitVec.getLsbD, Nat.testBit_zero]

/-- The mnemonics of the event rows, by operation code. -/
def eventMnemonics : List String :=
  ["NOP", "AUDIO_TICK", "SLOW_TICK", "MAIN_STEP", "NOTE_ON", "NOTE_OFF", "CONTROL_CHANGE", "PITCH_BEND", "KNOB", "RESET",
    "BUS_READY"]

/-- The event row of an operation code. -/
def eventRow (k : Nat) : Row := ⟨eventMnemonics.getD k "", .ev, k * 65536, 0xFF0000⟩

/-- The event rows of the opcode table are those of the eleven codes. -/
theorem row_eq_eventRow {j : Instr} (h : j.row.format = .ev) : ∃ k < 0x0B, j.row = eventRow k := by
  cases j with
  | nop => exact ⟨0, by decide, rfl⟩
  | audioTick => exact ⟨1, by decide, rfl⟩
  | slowTick => exact ⟨2, by decide, rfl⟩
  | mainStep => exact ⟨3, by decide, rfl⟩
  | noteOn => exact ⟨4, by decide, rfl⟩
  | noteOff => exact ⟨5, by decide, rfl⟩
  | controlChange => exact ⟨6, by decide, rfl⟩
  | pitchBend => exact ⟨7, by decide, rfl⟩
  | knob => exact ⟨8, by decide, rfl⟩
  | reset => exact ⟨9, by decide, rfl⟩
  | busReady => exact ⟨10, by decide, rfl⟩
  | _ => cases h

/-- The event decoder inverted: it answers an operation of the row of the word's code, with operands in range, and only for the
eleven codes (R102, R103). -/
theorem decodeEvent_ok {w : EventWord} {i : Instr} (h : decodeEvent w = .ok i) :
    (eventOp w).toNat < 0x0B ∧ i.row = eventRow (eventOp w).toNat ∧ i.wellFormed = true := by
  unfold decodeEvent at h
  split at h
  case h_12 => cases h
  all_goals
    rename_i hop
    cases h
    rw [hop]
    exact ⟨by decide, rfl, by simp [Instr.wellFormed, clampNoteOperand_le, clampSlotOperand_le]⟩

/-- Every one of the eleven codes decodes (R103). -/
theorem decodeEvent_of_lt {w : EventWord} (h : (eventOp w).toNat < 0x0B) : ∃ i, decodeEvent w = .ok i := by
  unfold decodeEvent
  generalize (eventOp w).toNat = k at h ⊢
  interval_cases k <;> exact ⟨_, rfl⟩

/-- No other code does, and the refusal names it (R104, U1). -/
theorem decodeEvent_of_ge {w : EventWord} (h : 0x0B ≤ (eventOp w).toNat) :
    decodeEvent w = .error (.reservedOp (eventOp w)) := by
  unfold decodeEvent
  split
  case h_12 => rfl
  all_goals
    rename_i hop
    exact absurd h (by rw [hop]; decide)

/-! ## Waveform ids -/

/-- The id of a waveform (R106). -/
def waveIdCode : WaveId → BitVec 4
  | .sine => 0
  | .ramp => 1
  | .triangle => 2
  | .square => 3
  | .rawSquare => 4
  | .syncSquare => 5
  | .noise => 6
  | .morph k => BitVec.ofNat 4 (7 + k.val)

/-- The operation of a waveform is encoded by the waveform's id. -/
theorem encode_waveInstr (g : Gen) (w : WaveId) : encode (waveInstr g w) = .wave g (waveIdCode w) := by
  cases w
  case morph k => fin_cases k <;> rfl
  all_goals rfl

/-- The rows of the waveform operations, numbered by the id. -/
theorem row_waveInstr (g : Gen) (w : WaveId) :
    (waveInstr g w).row.format = .wid ∧ (waveInstr g w).row.pattern = (waveIdCode w).toNat := by
  cases w
  case morph k => fin_cases k <;> exact ⟨rfl, rfl⟩
  all_goals exact ⟨rfl, rfl⟩

/-- Ids are read back, and every id is that of its waveform. -/
theorem decodeWaveId_waveIdCode (w : WaveId) : decodeWaveId (waveIdCode w) = w := by
  cases w
  case morph k => fin_cases k <;> rfl
  all_goals rfl

theorem waveIdCode_decodeWaveId : ∀ id : BitVec 4, waveIdCode (decodeWaveId id) = id := by decide

/-- An oscillator evaluates the waveform of its id. -/
theorem selectWave_of_ne_lfo {g : Gen} (h : g ≠ .lfo) (id : BitVec 4) : selectWave g id = decodeWaveId id := by
  rw [selectWave, if_neg (fun hg => h hg.1)]

/-- The ids 4 and 5 are those of the two squares the LFO does not have (R107). -/
theorem waveIdCode_eq_four_or_five {w : WaveId} :
    (waveIdCode w = 4 ∨ waveIdCode w = 5) ↔ (w = .rawSquare ∨ w = .syncSquare) := by
  cases w
  case morph k => fin_cases k <;> decide
  all_goals decide

/-- A waveform operation is well formed but for the LFO's raw and hard-sync square (R107). -/
theorem wellFormed_waveInstr (g : Gen) (w : WaveId) :
    (waveInstr g w).wellFormed = true ↔ ¬ (g = .lfo ∧ (w = .rawSquare ∨ w = .syncSquare)) := by
  cases w
  case morph k => fin_cases k <;> simp [waveInstr, Instr.wellFormed]
  all_goals simp [waveInstr, Instr.wellFormed]

/-- The id of a waveform its owner has selects it. -/
theorem selectWave_waveIdCode {g : Gen} {w : WaveId} (h : (waveInstr g w).wellFormed = true) :
    selectWave g (waveIdCode w) = w := by
  have hs := (wellFormed_waveInstr g w).1 h
  rw [← waveIdCode_eq_four_or_five] at hs
  rw [selectWave, if_neg hs, decodeWaveId_waveIdCode]

/-- Whatever an id selects is a waveform its owner has: the LFO's 4 and 5 are taken away. -/
theorem wellFormed_selectWave (g : Gen) (id : BitVec 4) : (waveInstr g (selectWave g id)).wellFormed = true := by
  rw [wellFormed_waveInstr, selectWave]
  split_ifs with h
  · exact fun hs => absurd hs.2 (by decide)
  · rwa [← waveIdCode_eq_four_or_five, waveIdCode_decodeWaveId]

/-- The number of the selected waveform: the id, but 3 for the LFO's 4 and 5 (R106, R107). -/
theorem waveIdCode_selectWave (g : Gen) (id : BitVec 4) :
    (waveIdCode (selectWave g id)).toNat = if g = .lfo ∧ (id.toNat = 4 ∨ id.toNat = 5) then 3 else id.toNat := by
  have e4 : id = 4 ↔ id.toNat = 4 := BitVec.toNat_inj.symm
  have e5 : id = 5 ↔ id.toNat = 5 := BitVec.toNat_inj.symm
  simp only [selectWave, e4, e5]
  split_ifs
  · rfl
  · rw [waveIdCode_decodeWaveId]

/-! ## The obligations -/

/-- Settles O1, by encoding space: an event word gives its fields back and the clamps leave operands in range alone; a waveform's
id selects it for every owner that has it; the four job codes are read back. -/
theorem decodeOfEncodeIsTheInstruction : Obligations.DecodeOfEncodeIsTheInstruction := by
  intro i
  induction i using Instr.casesByKind with
  | wave g w =>
    intro h
    rw [encode_waveInstr, decode, selectWave_waveIdCode h]
  | job j => cases j <;> exact fun _ => rfl
  | event i hi =>
    intro h
    cases i with
    | noteOn n v =>
      obtain ⟨hn, hv⟩ : n.toNat ≤ 127 ∧ v.toNat ≤ 127 := by simpa [Instr.wellFormed] using h
      simp [encode, decode_eventWord, clampNoteOperand_of_le hn, clampNoteOperand_of_le hv]
    | noteOff n =>
      have hn : n.toNat ≤ 127 := by simpa [Instr.wellFormed] using h
      simp [encode, decode_eventWord, clampNoteOperand_of_le hn]
    | controlChange p v =>
      have hp : p.toNat ≤ 31 := by simpa [Instr.wellFormed] using h
      simp [encode, decode_eventWord, clampSlotOperand_of_le hp]
    | knob p v =>
      have hp : p.toNat ≤ 31 := by simpa [Instr.wellFormed] using h
      simp [encode, decode_eventWord, clampSlotOperand_of_le hp]
    | pitchBend v => simp [encode, decode_eventWord]
    | busReady level => cases level <;> simp [encode, decode_eventWord]
    | nop | audioTick | slowTick | mainStep | reset => simp [encode, decode_eventWord]
    | _ => cases hi

/-- Settles O2, by encoding space: the event decoder clamps, and the LFO never selects a raw or hard-sync square. -/
theorem decodedInstructionsAreWellFormed : Obligations.DecodedInstructionsAreWellFormed := by
  intro c i h
  cases c with
  | event w => exact (decodeEvent_ok h).2.2
  | wave g id =>
    cases h
    exact wellFormed_selectWave g id
  | job code =>
    cases h
    cases decodeJobCode code <;> rfl

/-- Settles O3, by evaluation of the decoder on the eight codes. -/
theorem writtenEventWordsDecode : Obligations.WrittenEventWordsDecode := by
  unfold Obligations.WrittenEventWordsDecode
  decide

/-- Settles O4, code by code on the assembled word. -/
theorem operandsAreClampedAndUnusedFieldsIgnored : Obligations.OperandsAreClampedAndUnusedFieldsIgnored := by
  intro a b
  refine ⟨?_, ⟨_, _, decode_eventWord 0x04 a b, clampNoteOperand_toNat a, clampNoteOperand_toNat b⟩,
    ⟨_, decode_eventWord 0x05 a b, clampNoteOperand_toNat a⟩, ⟨_, decode_eventWord 0x06 a b, clampSlotOperand_toNat a⟩,
    decode_eventWord 0x07 a b, ⟨_, decode_eventWord 0x08 a b, clampSlotOperand_toNat a⟩, ?_⟩
  · intro op hop
    rw [decode_eventWord, decode_eventWord]
    simp only [List.mem_cons, List.not_mem_nil, or_false] at hop
    rcases hop with rfl | rfl | rfl | rfl | rfl <;> rfl
  · rw [← getLsbD_zero_eq_odd]
    exact decode_eventWord 0x0A a b

/-- Settles O5: the mask keeps the code of the word and the match is the row's own code, so the row is selected exactly when the
two codes are equal; and the decoder answers in the row of the word's code. -/
theorem eventWordsSelectRowsByMask : Obligations.EventWordsSelectRowsByMask := by
  intro w j hj
  obtain ⟨k, hk, hrow⟩ := row_eq_eventRow hj
  rw [hrow]
  have hsel : w.toNat &&& (eventRow k).mask = (eventRow k).pattern ↔ (eventOp w).toNat = k := by
    simp only [eventRow, and_opMask]; omega
  rw [hsel]
  constructor
  · rintro rfl
    obtain ⟨i, hi⟩ := decodeEvent_of_lt hk
    exact ⟨i, hi, (decodeEvent_ok hi).2.1⟩
  · rintro ⟨i, hi, hik⟩
    obtain ⟨-, hop, -⟩ := decodeEvent_ok hi
    have hpat : (eventOp w).toNat * 65536 = k * 65536 := congrArg Row.pattern (hop.symm.trans hik)
    omega

/-- Settles O6: the word's code is its first field, and the decoder answers exactly below 0x0B. -/
theorem reservedOpsAreRejectedByTheDecoder : Obligations.ReservedOpsAreRejectedByTheDecoder := by
  intro op a b
  have hop := eventOp_eventWord op a b
  refine ⟨fun h => ?_, fun h => ?_⟩
  · rw [decode, decodeEvent_of_ge (by rwa [hop]), hop]
  · exact decodeEvent_of_lt (by rwa [hop])

/-- Settles O7: the field of the waveshape slot, the number of the selected waveform, and the four job codes. -/
theorem selectorCodesDecodeByNumber : Obligations.SelectorCodesDecodeByNumber := by
  refine ⟨fun s g => ?_, fun g id => ⟨_, rfl, ?_⟩, fun code => ⟨_, rfl, ?_⟩⟩
  · have := (s.value (Machine.waveshapeSlot g)).isLt
    simp only [Machine.waveIdField, BitVec.extractLsb'_toNat, Nat.shiftRight_eq_div_pow]
    omega
  · rw [← waveIdCode_selectWave]
    exact row_waveInstr g _
  · revert code
    decide

end Sys2Proof
end

section
/-! PROOF. Steps and the scheduler's slow side (spec/40_scheduler.md R132 to R135): a step performs the decoded operation, every
operation completes, what SLOW_TICK and MAIN_STEP do to the scheduler's own state, and the round robin. -/

namespace Sys2Proof.Machine

/-! ## Every operation completes -/

/-- Every operation answers a next state (R300). -/
theorem exec_completes (i : Instr) (s : State) : ∃ t, exec i s = .next t := by
  induction i using Instr.casesByKind with
  | wave g w => exact ⟨_, exec_waveInstr w g s⟩
  | job j => exact ⟨_, exec_jobInstr j s⟩
  | event i hi => cases i <;> exact ⟨_, rfl⟩

/-- A step whose next word decodes to an operation is that operation on the state with the word taken. -/
theorem step_of_decode {s : State} {w : EventWord} {rest : List EventWord} {i : Instr} (hin : s.inbox = w :: rest)
    (hw : decode (.event w) = .ok i) : step s = exec i (beginOperation rest s) := by
  simp only [step, deliver, hin, perform, hw]

/-- So does every step: with no word it holds the state, and a reserved word changes nothing (R104, R313). -/
theorem step_completes (s : State) : ∃ t, step s = .next t := by
  unfold step deliver
  split
  · exact ⟨_, rfl⟩
  · unfold perform
    split
    · exact exec_completes _ _
    · exact ⟨_, rfl⟩

/-- Settles O8: the two parts of a step, the delivery of the word and the operation it decodes to. -/
theorem stepPerformsTheDecodedEvent : Obligations.StepPerformsTheDecodedEvent :=
  fun _ _ _ _ hin hw => step_of_decode hin hw

/-- Settles O9: completion of operations and of steps; `Fault` has no constructor. -/
theorem everyOperationCompletes : Obligations.EveryOperationCompletes :=
  ⟨exec_completes, step_completes, fun r => nomatch r⟩

/-! ## Invariants of steps -/

/-- A property that the start of an operation and each part of each event operation keeps. MAIN_STEP stands by its parts: the
amplitude step, the three jobs that do something, and the scheduler's own registers. -/
structure KeptByOperations (P : State → Prop) : Prop where
  begins : ∀ rest s, P s → P (beginOperation rest s)
  audioTick : ∀ s, P s → P (audioTick Config.tables s)
  slowTick : ∀ s, P s → P (setSlowPending s)
  clearSlowPending : ∀ s, P s → P (clearSlowPending s)
  amplitudeStep : ∀ s, P s → P (amplitudeStep Config.tables s)
  filterJob : ∀ s, P s → P (filterJob Config.tables s)
  pitchJob : ∀ s, P s → P (pitchJob Config.tables s)
  lfoJob : ∀ s, P s → P (lfoJob Config.tables s)
  advanceRoundRobin : ∀ s, P s → P (advanceRoundRobin s)
  noteOn : ∀ a b s, P s → P (noteOn a b s)
  noteOff : ∀ a s, P s → P (noteOff a s)
  inject : ∀ p b s, P s → P (inject Config.tables p b s)
  knobReading : ∀ p b s, P s → P (knobReading Config.tables p b s)
  reset : ∀ s, P s → P (resetEngine Config.tables s)
  busReady : ∀ level s, P s → P (setBusReady level s)

/-- MAIN_STEP keeps what its parts keep. -/
theorem KeptByOperations.mainStep {P : State → Prop} (kept : KeptByOperations P) {s : State} (h : P s) :
    P (mainStep Config.tables s) := by
  cases hp : s.slowPending with
  | false => rwa [mainStep_idle _ hp]
  | true =>
    have ha := kept.amplitudeStep _ (kept.clearSlowPending _ h)
    rw [mainStep_pending _ hp]
    apply kept.advanceRoundRobin
    cases s.rrState with
    | filter => exact kept.filterJob _ ha
    | knob => exact ha
    | pitch => exact kept.pitchJob _ ha
    | lfo => exact kept.lfoJob _ ha

/-- Every event operation keeps it. -/
theorem KeptByOperations.exec {P : State → Prop} (kept : KeptByOperations P) {i : Instr} (hi : i.row.format = .ev)
    {s t : State} (h : P s) (he : exec i s = .next t) : P t := by
  cases i with
  | nop => cases he; exact h
  | audioTick => cases he; exact kept.audioTick s h
  | slowTick => cases he; exact kept.slowTick s h
  | mainStep => cases he; exact kept.mainStep h
  | noteOn a b => cases he; exact kept.noteOn a b s h
  | noteOff a => cases he; exact kept.noteOff a s h
  | controlChange a b => cases he; exact kept.inject _ b s h
  | pitchBend b => cases he; exact kept.inject _ b s h
  | knob a b => cases he; exact kept.knobReading _ b s h
  | reset => cases he; exact kept.reset s h
  | busReady level => cases he; exact kept.busReady level s h
  | _ => cases hi

/-- Every step keeps it: only event operations are delivered. -/
theorem KeptByOperations.step {P : State → Prop} (kept : KeptByOperations P) {s t : State} (h : P s)
    (hstep : step s = .next t) : P t := by
  obtain ⟨-, rfl⟩ | ⟨w, rest, -, ⟨i, hi, he⟩ | ⟨op, -, rfl⟩⟩ := step_cases hstep
  · exact h
  · exact kept.exec ((decodeEvent_ok hi).2.1 ▸ rfl) (kept.begins rest s h) he
  · exact kept.begins rest s h

/-! ## SLOW_TICK, MAIN_STEP and the round robin -/

/-- Settles O15: the flag that was set is what `overrun` takes. -/
theorem slowTickSetsPendingOrOverrun : Obligations.SlowTickSetsPendingOrOverrun := by
  intro s
  show Host.Outcome.next (setSlowPending s) = _
  cases h : s.slowPending <;> simp [setSlowPending, h]

/-- Settles O56, by evaluation. -/
theorem nopKnobTurnAndBusReady : Obligations.NopKnobTurnAndBusReady := fun _ _ => ⟨rfl, rfl, rfl⟩

/-- The code of a job decodes to the job's operation (R108). -/
theorem decode_jobCode (j : Job) : decode (.job (jobCode j)) = .ok (jobInstr j) := by cases j <;> rfl

/-- A job leaves `rr_state`. -/
@[simp] theorem runJob_rrState (c : Config.Tables) (j : Job) (s : State) : (runJob c j s).rrState = s.rrState := by
  rw [runJob_frame]

/-- Settles O11: with the flag set, the parts of MAIN_STEP are exec of the selected job's operation after the amplitude step; the
job and the amplitude step leave `rr_state`. -/
theorem mainStepRunsAmplitudeThenTheSelectedJob : Obligations.MainStepRunsAmplitudeThenTheSelectedJob := by
  intro s
  split_ifs with hp
  · refine ⟨_, _, decode_jobCode s.rrState, ?_, exec_jobInstr s.rrState _, ?_, ?_⟩
    · cases s.rrState <;> rfl
    · exact congrArg Host.Outcome.next (mainStep_pending Config.tables hp)
    · rw [runJob_rrState, amplitudeStep_frame]
  · exact congrArg Host.Outcome.next (mainStep_idle Config.tables (by simpa using hp))

/-- What a MAIN_STEP with a tick pending does to the scheduler's own state (R133). -/
theorem mainStep_pending_scheduler (c : Config.Tables) {s : State} (h : s.slowPending = true) :
    (mainStep c s).rrState = nextJob s.rrState ∧ (mainStep c s).slowPending = false ∧
      (mainStep c s).overrun = s.overrun ∧ (mainStep c s).inbox = s.inbox := by
  rw [mainStep_pending c h, advanceRoundRobin, runJob_frame, amplitudeStep_frame]
  exact ⟨rfl, rfl, rfl, rfl⟩

/-- A delivered SLOW_TICK. -/
theorem step_slowTick {s : State} {rest : List EventWord} (h : s.inbox = 0x020000 :: rest) :
    step s = .next (setSlowPending (beginOperation rest s)) :=
  step_of_decode h (i := .slowTick) (by decide)

/-- A delivered MAIN_STEP. -/
theorem step_mainStep {s : State} {rest : List EventWord} (h : s.inbox = 0x030000 :: rest) :
    step s = .next (mainStep Config.tables (beginOperation rest s)) :=
  step_of_decode h (i := .mainStep) (by decide)

/-- A delivered MAIN_STEP with no tick pending. -/
theorem step_mainStep_idle {s : State} {rest : List EventWord} (h : s.inbox = 0x030000 :: rest)
    (hp : s.slowPending = false) : step s = .next (beginOperation rest s) := by
  rw [step_mainStep h, mainStep_idle]
  exact hp

/-- A run goes on from the state its first step answers. -/
theorem run_of_step {s t : State} (n : Nat) (h : step s = .next t) :
    Host.Core.run Sys2Proof.core (n + 1) s = Host.Core.run Sys2Proof.core n t := by
  have h' : Sys2Proof.core.step s = .next t := h
  simp only [Host.Core.run, h']

/-- A SLOW_TICK and the MAIN_STEP that consumes it advance `rr_state` by one (R133). -/
theorem run_traceTick {s : State} {rest : List EventWord} (n : Nat) (h : s.inbox = 0x020000 :: 0x030000 :: rest) :
    ∃ t, Host.Core.run Sys2Proof.core (n + 2) s = Host.Core.run Sys2Proof.core n t ∧ t.inbox = rest ∧
      t.rrState = nextJob s.rrState := by
  obtain ⟨hrr, -, -, hin⟩ := mainStep_pending_scheduler Config.tables
    (s := beginOperation rest (setSlowPending (beginOperation (0x030000 :: rest) s))) rfl
  exact ⟨_, (run_of_step (n + 1) (step_slowTick h)).trans (run_of_step n (step_mainStep rfl)), hin, hrr⟩

/-- `k` such pairs advance it by `k`. -/
theorem run_traceTicks (k : Nat) (s : State) (rest : List EventWord) (h : s.inbox = traceTicks k ++ rest) :
    ∃ t, Host.Core.run Sys2Proof.core (2 * k) s = .next t ∧ t.inbox = rest ∧ t.rrState = Nat.iterate nextJob k s.rrState := by
  induction k generalizing s with
  | zero => exact ⟨s, rfl, h, rfl⟩
  | succ k ih =>
    obtain ⟨t, hrun, hin, hrr⟩ := run_traceTick (2 * k) h
    obtain ⟨u, hu, huin, hurr⟩ := ih t hin
    exact ⟨u, hrun.trans hu, huin, by rw [hurr, hrr]; rfl⟩

/-- No operation but MAIN_STEP and RESET writes `rr_state` (R134). -/
theorem exec_keeps_rrState {i : Instr} {s t : State} (hm : i ≠ .mainStep) (hr : i ≠ .reset) (h : exec i s = .next t) :
    t.rrState = s.rrState := by
  induction i using Instr.casesByKind with
  | wave g w =>
    rw [exec_waveInstr] at h
    cases h
    rw [evalWave_frame]
    simp
  | job j =>
    rw [exec_jobInstr] at h
    cases h
    exact runJob_rrState _ _ _
  | event i hi =>
    cases i with
    | mainStep => exact absurd rfl hm
    | reset => exact absurd rfl hr
    | audioTick => cases h; rw [audioTick_frame]
    | noteOff a => cases h; unfold noteOff; split_ifs <;> rfl
    | controlChange a b => cases h; rw [inject_frame]
    | pitchBend b => cases h; rw [inject_frame]
    | knob a b => cases h; rw [knobReading_frame]
    | nop | slowTick | noteOn | busReady => cases h; rfl
    | _ => cases hi

/-- Settles O16: by induction on the number of consumed ticks; the rotation is a cycle of four. -/
theorem roundRobinSelectsEachJobOnceInFourConsumedTicks : Obligations.RoundRobinSelectsEachJobOnceInFourConsumedTicks :=
  ⟨run_traceTicks, fun j k => by cases j <;> cases k <;> rfl, ⟨rfl, rfl, rfl, rfl⟩,
    fun _ _ _ hm hr h => exec_keeps_rrState hm hr h⟩

/-- Settles O17: the second tick finds the flag set, the first MAIN_STEP consumes it, and the second finds it clear. -/
theorem missedSlowTickIsMergedAndRecorded : Obligations.MissedSlowTickIsMergedAndRecorded := by
  intro s rest h
  let ticked := setSlowPending (beginOperation (0x030000 :: 0x030000 :: rest)
    (setSlowPending (beginOperation (0x020000 :: 0x030000 :: 0x030000 :: rest) s)))
  obtain ⟨hrr, hpend, hover, hin⟩ := mainStep_pending_scheduler Config.tables
    (s := beginOperation (0x030000 :: rest) ticked) rfl
  refine ⟨beginOperation rest (mainStep Config.tables (beginOperation (0x030000 :: rest) ticked)), ?_, rfl,
    hover.trans (Bool.or_true _), hpend, hrr⟩
  calc Host.Core.run Sys2Proof.core 4 s
      = Host.Core.run Sys2Proof.core 3 (setSlowPending (beginOperation _ s)) := run_of_step 3 (step_slowTick h)
    _ = Host.Core.run Sys2Proof.core 2 ticked := run_of_step 2 (step_slowTick rfl)
    _ = Host.Core.run Sys2Proof.core 1 (mainStep Config.tables (beginOperation _ ticked)) :=
        run_of_step 1 (step_mainStep rfl)
    _ = .next _ := run_of_step 0 (step_mainStep_idle hin hpend)

end Sys2Proof.Machine
end

section
/-! PROOF. The amplitude envelope (spec/43_amplitude_envelope.md R210 to R220): the amplitude step by stage, the VCA output, and the
invariant. -/

namespace Sys2Proof.Machine

open Sys2Proof.Config (Tables)

/-! ## The step by stage -/

theorem ampSyncTake_set {s : State} (h : s.sync.amplitude = true) :
    ampSyncTake s = { s with
      sync.amplitude := false
      amp.phase := .attack
      amp.timer := 0
      amp.ceiling := ampCeiling s.velocity } := by
  rw [ampSyncTake, if_pos h]
  rfl

theorem ampSyncTake_clear {s : State} (h : s.sync.amplitude = false) : ampSyncTake s = s := by
  rw [ampSyncTake, if_neg (by simp [h])]

/-- A held key, or a Release that runs already, is not forced (R212). -/
theorem ampForceRelease_of_held {s : State} (h : s.keyDown = true ∨ s.amp.phase = .release) : ampForceRelease s = s := by
  rw [ampForceRelease, if_neg]
  rintro ⟨hk, hp⟩
  rcases h with h | h
  · simp [h] at hk
  · exact hp h

theorem ampForceRelease_of_released {s : State} (hk : s.keyDown = false) (hp : s.amp.phase ≠ .release) :
    ampForceRelease s = { s with amp.phase := .release, amp.timer := 0 } := by
  rw [ampForceRelease, if_pos ⟨hk, hp⟩]

/-- With nothing to take and nothing to force, the amplitude step of a sounding note is the stage's own step. -/
theorem amplitudeStep_sounding (c : Tables) {s : State} (hon : s.noteOn = true)
    (hheld : s.keyDown = true ∨ s.amp.phase = .release) (hsync : s.sync.amplitude = false) :
    amplitudeStep c s = vcaWrite (ampAdvance c s) := by
  rw [amplitudeStep, ampSyncTake_clear hsync, ampStage, if_pos hon, ampForceRelease_of_held hheld]

/-- With nothing to take and no note, it is the VCA write. -/
theorem amplitudeStep_idle (c : Tables) {s : State} (hon : s.noteOn = false) (hsync : s.sync.amplitude = false) :
    amplitudeStep c s = vcaWrite s := by
  rw [amplitudeStep, ampSyncTake_clear hsync, ampStage, if_neg (by simp [hon])]

theorem ampAdvance_sustain (c : Tables) {s : State} (h : s.amp.phase = .sustain) : ampAdvance c s = s := by
  rw [ampAdvance, if_pos h]

theorem ampAdvance_timer (c : Tables) {s : State} (hp : s.amp.phase ≠ .sustain) (ht : s.amp.timer ≠ 0) :
    ampAdvance c s = { s with amp.timer := s.amp.timer - 1 } := by
  rw [ampAdvance, if_neg hp, if_pos ht]

theorem ampAdvance_attack (c : Tables) {s : State} (hp : s.amp.phase = .attack) (ht : s.amp.timer = 0) :
    ampAdvance c s = ampAttackStep c s := by
  simp [ampAdvance, hp, ht]

theorem ampAdvance_decay (c : Tables) {s : State} (hp : s.amp.phase = .decay) (ht : s.amp.timer = 0) :
    ampAdvance c s = ampDecayStep c s := by
  simp [ampAdvance, hp, ht]

theorem ampAdvance_release (c : Tables) {s : State} (hp : s.amp.phase = .release) (ht : s.amp.timer = 0) :
    ampAdvance c s = ampReleaseStep c s := by
  simp [ampAdvance, hp, ht]

/-! ## Numbers -/

/-- The ceiling is in 47..253 (R211, R45). -/
theorem ampCeiling_range (v : Note) : 47 ≤ (ampCeiling v).toNat ∧ (ampCeiling v).toNat ≤ 253 := by
  have := v.isLt
  rw [ampCeiling_toNat]
  omega

/-- The sustain target lies between the floor and the ceiling (R214). -/
theorem ampSustainTarget_range (knob : Byte) {ceiling : Byte} (h : 47 ≤ ceiling.toNat) :
    47 ≤ (ampSustainTarget knob ceiling).toNat ∧ (ampSustainTarget knob ceiling).toNat ≤ ceiling.toNat := by
  have hk : knob.toNat * (ceiling.toNat - 47) ≤ 256 * (ceiling.toNat - 47) := Nat.mul_le_mul_right _ knob.isLt.le
  rw [ampSustainTarget_toNat knob ceiling h]
  omega

theorem EnvStep_units_le (e : Config.EnvStep) : e.units ≤ 4 := by cases e <;> decide

/-- The VCA control value in plain numbers (R219). -/
theorem vcaValue_toNat (level amplitude : Byte) :
    (vcaValue level amplitude).toNat = max (level.toNat * amplitude.toNat / 256) 47 ∧ (vcaValue level amplitude).toNat ≤ 254 := by
  have hprod : level.toNat * amplitude.toNat ≤ 255 * 255 :=
    Nat.mul_le_mul (Nat.le_of_lt_succ level.isLt) (Nat.le_of_lt_succ amplitude.isLt)
  have hv : vcaValue level amplitude = byteOf ((max (level.toNat * amplitude.toNat / 256) 47 : Nat) : Int) := by
    simp [vcaValue, Config.envFloor]
  rw [hv, byteOf_natCast (by omega)]
  omega

/-! ## What each step does -/

/-- Settles O24: the take and the forced Release by their own equations; the step from the state so armed or forced finds nothing
left to take or to force. -/
theorem syncArmsAttackAndKeyReleaseForcesRelease : Obligations.SyncArmsAttackAndKeyReleaseForcesRelease := by
  refine ⟨fun s h => ?_, fun s h => ampSyncTake_clear h, fun s => rfl, fun s => ?_, fun s h => ?_, fun s hon hk hsync hp => ?_⟩
  · obtain ⟨hlow, hhigh⟩ := ampCeiling_range s.velocity
    exact ⟨hlow, hhigh, ampCeiling_toNat s.velocity, ampSyncTake_set h⟩
  · have hon : (ampSyncTake s).noteOn = s.noteOn := by rw [ampSyncTake_frame]
    rw [amplitudeStep, ampStage, hon]
  · have htaken := ampSyncTake_clear (s := ampSyncTake s) (by rw [ampSyncTake_frame])
    rw [← ampSyncTake_set h, amplitudeStep, amplitudeStep, htaken]
  · rw [amplitudeStep, ampSyncTake_clear hsync, ampStage, if_pos hon, ampForceRelease_of_released hk hp]
    exact (amplitudeStep_sounding _ (s := { s with amp.phase := .release, amp.timer := 0 }) hon (.inr rfl) hsync).symm

/-- The Attack step at the ceiling (R214). -/
theorem ampAttackStep_top (c : Tables) {s : State}
    (h : s.amp.ceiling.toNat ≤ (ampAttackLevel s.adsrMultiplier s.amp.ceiling
      (c.envRate (s.value SlotNo.ampAttack)).2.units).toNat) :
    ampAttackStep c s = { s with
      adsrMultiplier := ampAttackLevel s.adsrMultiplier s.amp.ceiling (c.envRate (s.value SlotNo.ampAttack)).2.units
      amp := ⟨.decay, (c.envRate (s.value SlotNo.ampAttack)).1, s.amp.ceiling,
        ampSustainTarget (s.value SlotNo.ampSustain) s.amp.ceiling⟩ } :=
  if_pos h

/-- The Attack step below the ceiling (R214). -/
theorem ampAttackStep_below (c : Tables) {s : State}
    (h : ¬ s.amp.ceiling.toNat ≤ (ampAttackLevel s.adsrMultiplier s.amp.ceiling
      (c.envRate (s.value SlotNo.ampAttack)).2.units).toNat) :
    ampAttackStep c s = { s with
      adsrMultiplier := ampAttackLevel s.adsrMultiplier s.amp.ceiling (c.envRate (s.value SlotNo.ampAttack)).2.units
      amp.timer := (c.envRate (s.value SlotNo.ampAttack)).1 } :=
  if_neg h

/-- Either way it leaves the raised level. -/
theorem ampAttackStep_level (c : Tables) (s : State) :
    (ampAttackStep c s).adsrMultiplier =
      ampAttackLevel s.adsrMultiplier s.amp.ceiling (c.envRate (s.value SlotNo.ampAttack)).2.units := by
  unfold ampAttackStep
  dsimp only
  split_ifs <;> rfl

/-- The Decay step: the stage it leaves is the only thing its branches differ in (R215). -/
theorem ampDecayStep_eq (c : Tables) (s : State) :
    ampDecayStep c s = { s with
      adsrMultiplier := ampFallLevel s.adsrMultiplier s.amp.sustain (c.envRate (s.value SlotNo.ampDecay)).2.units
      amp.timer := (c.envRate (s.value SlotNo.ampDecay)).1
      amp.phase := if (ampFallLevel s.adsrMultiplier s.amp.sustain
        (c.envRate (s.value SlotNo.ampDecay)).2.units).toNat ≤ s.amp.sustain.toNat then .sustain else s.amp.phase } := by
  unfold ampDecayStep
  dsimp only
  split_ifs <;> rfl

/-- The Release step: its branches differ in the stage and in `note_on` (R217). -/
theorem ampReleaseStep_eq (c : Tables) (s : State) :
    ampReleaseStep c s = { s with
      adsrMultiplier := ampFallLevel s.adsrMultiplier 47#8 (c.envRate (s.value SlotNo.ampRelease)).2.units
      amp.timer := (c.envRate (s.value SlotNo.ampRelease)).1
      amp.phase := if (ampFallLevel s.adsrMultiplier 47#8
        (c.envRate (s.value SlotNo.ampRelease)).2.units).toNat = 47 then .attack else s.amp.phase
      noteOn := if (ampFallLevel s.adsrMultiplier 47#8
        (c.envRate (s.value SlotNo.ampRelease)).2.units).toNat = 47 then false else s.noteOn } := by
  unfold ampReleaseStep Config.envFloor
  dsimp only
  split_ifs <;> rfl

/-- Settles O25: the two branches of the Attack step, at the ceiling and below it. -/
theorem attackRisesToTheCeilingThenDecays : Obligations.AttackRisesToTheCeilingThenDecays := by
  intro s hon hk hsync hp ht
  have hlevel := ampAttackLevel_toNat s.adsrMultiplier s.amp.ceiling
    (Config.tables.envRate (s.value SlotNo.ampAttack)).2.units
  rw [amplitudeStep_sounding _ hon (.inl hk) hsync, ampAdvance_attack _ hp ht]
  by_cases htop : s.amp.ceiling.toNat ≤ (ampAttackLevel s.adsrMultiplier s.amp.ceiling
      (Config.tables.envRate (s.value SlotNo.ampAttack)).2.units).toNat
  · rw [ampAttackStep_top _ htop]
    exact ⟨hlevel, rfl, (if_pos htop).symm ▸ ⟨rfl, ampSustainTarget_toNat _ _⟩, rfl, rfl⟩
  · rw [ampAttackStep_below _ htop]
    exact ⟨hlevel, rfl, (if_neg htop).symm ▸ ⟨hp, rfl⟩, rfl, rfl⟩

/-- Settles O26: the Decay step and the Release step, each in its stage. -/
theorem decayAndReleaseFallToTheirTargets : Obligations.DecayAndReleaseFallToTheirTargets := by
  refine ⟨fun s hon hk hsync hp ht => ?_, fun s hon hsync hp ht => ?_⟩
  · rw [amplitudeStep_sounding _ hon (.inl hk) hsync, ampAdvance_decay _ hp ht, ampDecayStep_eq, hp]
    exact ⟨ampFallLevel_toNat _ _ _, rfl⟩
  · rw [amplitudeStep_sounding _ hon (.inr hp) hsync, ampAdvance_release _ hp ht, ampReleaseStep_eq, hp, hon]
    exact ⟨ampFallLevel_toNat _ _ _, rfl⟩

/-- Settles O27: the timer gate, Sustain and idle each leave the state to the VCA write. -/
theorem timerGateSustainAndIdleHoldTheLevel : Obligations.TimerGateSustainAndIdleHoldTheLevel := by
  refine ⟨fun s hon hheld hsync hp ht => ?_, fun s hon hk hsync hp => ?_, fun s hon hsync => ?_⟩
  · have htimer : s.amp.timer - 1 = BitVec.ofNat 8 (s.amp.timer.toNat - 1) := by bv_omega
    rw [amplitudeStep_sounding _ hon hheld hsync, ampAdvance_timer _ hp ht, htimer]
    exact ⟨_, rfl⟩
  · rw [amplitudeStep_sounding _ hon (.inl hk) hsync, ampAdvance_sustain _ hp]
    exact ⟨_, rfl⟩
  · rw [amplitudeStep_idle _ hon hsync]
    exact ⟨_, rfl⟩

/-- The amplitude step leaves every slot. -/
@[simp] theorem amplitudeStep_value (c : Tables) (s : State) (p : Slot) : (amplitudeStep c s).value p = s.value p :=
  value_congr (by rw [amplitudeStep_frame]) p

/-- Settles O28: the VCA write comes last, and the parts before it leave the AMPLITUDE slot. -/
theorem vcaOutputIsScaledAndFloored : Obligations.VcaOutputIsScaledAndFloored := by
  intro s
  have hvca := vcaValue_toNat (amplitudeStep Config.tables s).adsrMultiplier
    ((amplitudeStep Config.tables s).value SlotNo.amplitude)
  rw [amplitudeStep_value] at hvca
  have hwritten : (amplitudeStep Config.tables s).vcaOut = vcaValue (amplitudeStep Config.tables s).adsrMultiplier
    ((amplitudeStep Config.tables s).value SlotNo.amplitude) := rfl
  rw [amplitudeStep_value] at hwritten
  dsimp only
  rwa [hwritten]

/-! ## The invariant -/

/-- The take: only a sounding note is armed, and Attack asks nothing of the level. -/
theorem AmpSafe.ampSyncTake {s : State} (h : AmpSafe s) : AmpSafe (ampSyncTake s) := by
  cases hsync : s.sync.amplitude with
  | false => rwa [ampSyncTake_clear hsync]
  | true =>
    obtain ⟨hlow, hhigh⟩ := ampCeiling_range s.velocity
    rw [ampSyncTake_set hsync]
    exact { h with
      ceilingLow := hlow
      ceilingHigh := hhigh
      idle := fun hoff => absurd (h.armed hsync) (by rw [hoff]; decide)
      armed := nofun
      decaying := nofun
      holding := nofun }

/-- The forced Release of a sounding note. -/
theorem AmpSafe.ampForceRelease {s : State} (h : AmpSafe s) (hon : s.noteOn = true) : AmpSafe (ampForceRelease s) := by
  unfold Machine.ampForceRelease
  split_ifs
  · exact { h with
      idle := fun hoff => absurd hon (by rw [hoff]; decide)
      decaying := nofun
      holding := nofun }
  · exact h

/-- Attack: below the ceiling the level rises; at it the sustain target captured is not above it, and so not above the level. -/
theorem AmpSafe.ampAttackStep (c : Tables) {s : State} (h : AmpSafe s) (hon : s.noteOn = true) (hp : s.amp.phase = .attack) :
    AmpSafe (ampAttackStep c s) := by
  have hlevel := ampAttackLevel_toNat s.adsrMultiplier s.amp.ceiling (c.envRate (s.value SlotNo.ampAttack)).2.units
  have hfloor : 47 ≤ (ampAttackLevel s.adsrMultiplier s.amp.ceiling
      (c.envRate (s.value SlotNo.ampAttack)).2.units).toNat := by
    have := h.level; have := h.ceilingLow
    rw [hlevel]; split_ifs <;> omega
  obtain ⟨hlow, hhigh⟩ := ampSustainTarget_range (s.value SlotNo.ampSustain) h.ceilingLow
  by_cases htop : s.amp.ceiling.toNat ≤ (ampAttackLevel s.adsrMultiplier s.amp.ceiling
      (c.envRate (s.value SlotNo.ampAttack)).2.units).toNat
  · rw [ampAttackStep_top c htop]
    exact { h with
      level := hfloor
      sustainLow := hlow
      idle := fun hoff => absurd hon (by rw [hoff]; decide)
      decaying := fun _ => hhigh.trans htop
      holding := nofun }
  · rw [ampAttackStep_below c htop]
    exact { h with
      level := hfloor
      idle := fun hoff => absurd hon (by rw [hoff]; decide)
      decaying := fun hd => absurd (hp.symm.trans hd) (by decide)
      holding := fun hd => absurd (hp.symm.trans hd) (by decide) }

/-- Decay never falls below the sustain target, and enters Sustain exactly at it. -/
theorem AmpSafe.ampDecayStep (c : Tables) {s : State} (h : AmpSafe s) (hon : s.noteOn = true) (hp : s.amp.phase = .decay) :
    AmpSafe (ampDecayStep c s) := by
  have hlevel := ampFallLevel_toNat s.adsrMultiplier s.amp.sustain (c.envRate (s.value SlotNo.ampDecay)).2.units
  have habove : s.amp.sustain.toNat ≤ (ampFallLevel s.adsrMultiplier s.amp.sustain
      (c.envRate (s.value SlotNo.ampDecay)).2.units).toNat := by omega
  unfold Machine.ampDecayStep
  dsimp only
  split_ifs with htop
  · exact { h with
      level := h.sustainLow.trans habove
      idle := fun hoff => absurd hon (by rw [hoff]; decide)
      decaying := nofun
      holding := fun _ => BitVec.eq_of_toNat_eq (le_antisymm htop habove) }
  · exact { h with
      level := h.sustainLow.trans habove
      idle := fun hoff => absurd hon (by rw [hoff]; decide)
      decaying := fun _ => habove
      holding := fun hd => absurd (hp.symm.trans hd) (by decide) }

/-- Release ends the note exactly at the floor, where the idle condition asks it to be; no arming is lost, for the flag has been
taken. -/
theorem AmpSafe.ampReleaseStep (c : Tables) {s : State} (h : AmpSafe s) (hon : s.noteOn = true)
    (hsync : s.sync.amplitude = false) (hp : s.amp.phase = .release) : AmpSafe (ampReleaseStep c s) := by
  have hlevel := ampFallLevel_toNat s.adsrMultiplier (BitVec.ofNat 8 Config.envFloor)
    (c.envRate (s.value SlotNo.ampRelease)).2.units
  have habove : 47 ≤ (ampFallLevel s.adsrMultiplier (BitVec.ofNat 8 Config.envFloor)
      (c.envRate (s.value SlotNo.ampRelease)).2.units).toNat := hlevel ▸ le_max_right _ _
  unfold Machine.ampReleaseStep
  dsimp only
  split_ifs with htop
  · exact { h with
      level := habove
      idle := fun _ => ⟨rfl, htop⟩
      armed := fun harm => absurd hsync (by rw [harm]; decide)
      decaying := nofun
      holding := nofun }
  · exact { h with
      level := habove
      idle := fun hoff => absurd hon (by rw [hoff]; decide)
      decaying := fun hd => absurd (hp.symm.trans hd) (by decide)
      holding := fun hd => absurd (hp.symm.trans hd) (by decide) }

/-- The stage's own step, by stage and timer. -/
theorem AmpSafe.ampAdvance (c : Tables) {s : State} (h : AmpSafe s) (hon : s.noteOn = true)
    (hsync : s.sync.amplitude = false) : AmpSafe (ampAdvance c s) := by
  by_cases hs : s.amp.phase = .sustain
  · rwa [ampAdvance_sustain c hs]
  by_cases ht : s.amp.timer = 0
  · cases hp : s.amp.phase with
    | attack => rw [ampAdvance_attack c hp ht]; exact h.ampAttackStep c hon hp
    | decay => rw [ampAdvance_decay c hp ht]; exact h.ampDecayStep c hon hp
    | sustain => exact absurd hp hs
    | release => rw [ampAdvance_release c hp ht]; exact h.ampReleaseStep c hon hsync hp
  · rw [ampAdvance_timer c hs ht]
    exact { h with }

/-- The whole amplitude step: the take, the forced Release, the stage's step and the VCA write. -/
theorem AmpSafe.amplitudeStep (c : Tables) {s : State} (h : AmpSafe s) : AmpSafe (amplitudeStep c s) := by
  have htaken : (Machine.ampSyncTake s).sync.amplitude = false := by rw [ampSyncTake_frame]
  have hstage : AmpSafe (ampStage c (Machine.ampSyncTake s)) := by
    unfold ampStage
    split_ifs with hon
    · exact (h.ampSyncTake.ampForceRelease hon).ampAdvance c (by rw [ampForceRelease_frame]; exact hon)
        (by rw [ampForceRelease_frame]; exact htaken)
    · exact h.ampSyncTake
  exact { hstage with vca := (vcaValue_toNat _ _).1 ▸ le_max_right _ _ }

/-- The stage's own step moves the level by at most the largest step size: up to the ceiling or down to a target not above the
level (R220). -/
theorem AmpSafe.ampAdvance_level (c : Tables) {s : State} (h : AmpSafe s) :
    (Machine.ampAdvance c s).adsrMultiplier.toNat ≤ s.adsrMultiplier.toNat + 4 ∧
      s.adsrMultiplier.toNat ≤ (Machine.ampAdvance c s).adsrMultiplier.toNat + 4 := by
  by_cases hs : s.amp.phase = .sustain
  · rw [ampAdvance_sustain c hs]; omega
  by_cases ht : s.amp.timer = 0
  · cases hp : s.amp.phase with
    | attack =>
      have hst := EnvStep_units_le (c.envRate (s.value SlotNo.ampAttack)).2
      have hlevel := ampAttackLevel_toNat s.adsrMultiplier s.amp.ceiling (c.envRate (s.value SlotNo.ampAttack)).2.units
      rw [ampAdvance_attack c hp ht, ampAttackStep_level, hlevel]
      split_ifs <;> omega
    | decay =>
      have hst := EnvStep_units_le (c.envRate (s.value SlotNo.ampDecay)).2
      have hlevel := ampFallLevel_toNat s.adsrMultiplier s.amp.sustain (c.envRate (s.value SlotNo.ampDecay)).2.units
      have hle := h.decaying hp
      rw [ampAdvance_decay c hp ht, ampDecayStep_eq, hlevel]
      omega
    | sustain => exact absurd hp hs
    | release =>
      have hst := EnvStep_units_le (c.envRate (s.value SlotNo.ampRelease)).2
      have hlevel := ampFallLevel_toNat s.adsrMultiplier 47#8 (c.envRate (s.value SlotNo.ampRelease)).2.units
      have hle := h.level
      rw [ampAdvance_release c hp ht, ampReleaseStep_eq, hlevel, BitVec.toNat_ofNat]
      omega
  · rw [ampAdvance_timer c hs ht]
    exact ⟨Nat.le_add_right _ 4, Nat.le_add_right _ 4⟩

/-- Settles O29: the take, the forced Release and the VCA write leave the level; the stage's own step moves it by at most 4. -/
theorem amplitudeLevelMovesByAtMostFour : Obligations.AmplitudeLevelMovesByAtMostFour := by
  intro s h
  have htake : (ampSyncTake s).adsrMultiplier = s.adsrMultiplier := by rw [ampSyncTake_frame]
  show (ampStage Config.tables (ampSyncTake s)).adsrMultiplier.toNat ≤ _ ∧
    _ ≤ (ampStage Config.tables (ampSyncTake s)).adsrMultiplier.toNat + 4
  unfold ampStage
  split_ifs with hon
  · have hforce : (ampForceRelease (ampSyncTake s)).adsrMultiplier = s.adsrMultiplier := by
      rw [ampForceRelease_frame, htake]
    have hmove := (h.ampSyncTake.ampForceRelease hon).ampAdvance_level Config.tables
    rwa [hforce] at hmove
  · rw [htake]; omega

/-- The envelope after reset is idle at the floor (R60). -/
theorem AmpSafe.reset : AmpSafe State.reset where
  level := le_rfl
  vca := le_rfl
  ceilingLow := le_rfl
  ceilingHigh := by show 47 ≤ 253; decide
  sustainLow := le_rfl
  idle _ := ⟨rfl, rfl⟩
  armed := nofun
  decaying := nofun
  holding := nofun

/-- The amplitude envelope's invariant is kept by every part of every event operation. Only NOTE_ON, RESET and the amplitude step
write what it speaks of. -/
theorem ampSafe_kept : KeptByOperations AmpSafe where
  begins _ _ h := { h with }
  audioTick s h := by rw [audioTick_frame]; exact { h with }
  slowTick _ h := { h with }
  clearSlowPending _ h := { h with }
  amplitudeStep _ h := h.amplitudeStep Config.tables
  filterJob s h := by rw [filterJob_frame]; exact { h with }
  pitchJob s h := by rw [pitchJob_frame]; exact { h with }
  lfoJob s h := by rw [lfoJob_frame]; exact { h with }
  advanceRoundRobin _ h := { h with }
  noteOn _ _ _ h := { h with idle := nofun, armed := fun _ => rfl }
  noteOff a s h := by
    unfold Machine.noteOff
    split_ifs
    · exact { h with }
    · exact h
  inject p b s h := by rw [inject_frame]; exact { h with }
  knobReading p b s h := by rw [knobReading_frame]; exact { h with }
  reset _ _ := { AmpSafe.reset with }
  busReady _ _ h := { h with }

/-- Settles O30: every step keeps what the parts of the operations keep. -/
theorem everyStepKeepsTheAmplitudeInvariant : Obligations.EveryStepKeepsTheAmplitudeInvariant :=
  fun _ _ h hstep => ampSafe_kept.step h hstep

end Sys2Proof.Machine
end

section
/-! PROOF. The filter envelope (spec/44_filter_envelope.md R231 to R238): arming, the single step and the end of each stage, the exact
arrival, and the invariant. -/

namespace Sys2Proof.Machine

open Sys2Proof.Config (Tables)

/-! ## Paths -/

/-- One step along a path leaves a path for the rest. -/
theorem StaysOnPath.step {slope remaining gap : Int} (h : StaysOnPath slope remaining gap) :
    StaysOnPath slope (remaining - 1) (gap - slope) := by
  rcases h with ⟨h0, h1⟩ | ⟨h0, h1⟩
  · exact .inl ⟨h0, by rw [mul_sub, mul_one]; omega⟩
  · exact .inr ⟨h0, by rw [mul_sub, mul_one]; omega⟩

/-- As long as steps remain, the way gone lies between 0 and the gap. -/
theorem StaysOnPath.between {slope remaining gap k : Int} (h : StaysOnPath slope remaining gap) (h0 : 0 ≤ k)
    (hk : k ≤ remaining) : min 0 gap ≤ k * slope ∧ k * slope ≤ max 0 gap := by
  rw [mul_comm]
  rcases h with ⟨hs, hg⟩ | ⟨hs, hg⟩
  · have h1 : 0 ≤ slope * k := mul_nonneg hs h0
    have h2 : slope * k ≤ slope * remaining := mul_le_mul_of_nonneg_left hk hs
    omega
  · have h1 : slope * k ≤ 0 := mul_nonpos_of_nonpos_of_nonneg hs h0
    have h2 : slope * remaining ≤ slope * k := mul_le_mul_of_nonpos_left hk hs
    omega

/-! ## Arming -/

theorem fltSyncTake_set {s : State} (h : s.sync.filter = true) :
    fltSyncTake s = { s with
      sync.filter := false
      flt.active := true
      flt.phase := .attack
      flt.peak := s17Of (fltPeakOf s)
      flt.target := s17Of (fltPeakOf s)
      flt.slope := s17Of (tdiv (fltPeakOf s - s.flt.adder.toInt) (128 - s.flt.step.toNat))
      flt.timer := 0 } :=
  if_pos h

theorem fltSyncTake_clear {s : State} (h : s.sync.filter = false) : fltSyncTake s = s := by
  rw [fltSyncTake, if_neg (by simp [h])]

theorem fltForceRelease_released {s : State} (ha : s.flt.active = true) (hk : s.keyDown = false)
    (hp : s.flt.phase ≠ .release) :
    fltForceRelease s = { s with
      flt.phase := .release
      flt.step := 0
      flt.target := 0
      flt.slope := s17Of (tdiv (0 - s.flt.adder.toInt) 128)
      flt.timer := 0 } :=
  if_pos ⟨ha, hk, hp⟩

theorem fltForceRelease_held {s : State} (h : s.flt.active = false ∨ s.keyDown = true ∨ s.flt.phase = .release) :
    fltForceRelease s = s := by
  rw [fltForceRelease, if_neg]
  rintro ⟨ha, hk, hp⟩
  rcases h with h | h | h
  · simp [h] at ha
  · simp [h] at hk
  · exact hp h

/-- The peak register holds the peak (R232). -/
theorem s17Of_fltPeakOf (s : State) : (s17Of (fltPeakOf s)).toInt = fltPeakOf s := by
  have := fltPeakOf_range s
  exact s17Of_toInt (by omega) (by omega)

/-- Between two levels of the invariant's range the truncated slope fits its register. -/
theorem s17Of_slope {a b : Int} {n : Nat} (hn : 0 < n) (ha : -32768 ≤ a ∧ a ≤ 32512) (hb : -32768 ≤ b ∧ b ≤ 32512) :
    (s17Of (tdiv (a - b) n)).toInt = tdiv (a - b) n :=
  s17Of_tdiv_toInt hn (by omega) (by omega)

/-- A target of the invariant is in the range of a peak (R231). -/
theorem FilterSafe.target_range {f : FltRegs} (h : FilterSafe f) : -32768 ≤ f.target.toInt ∧ f.target.toInt ≤ 32512 := by
  obtain ⟨hpl, hph, htl, hth⟩ := And.intro h.peakLow (And.intro h.peakHigh (And.intro h.targetLow h.targetHigh))
  omega

theorem FilterSafe.adder_range {f : FltRegs} (h : FilterSafe f) : -32768 ≤ f.adder.toInt ∧ f.adder.toInt ≤ 32512 :=
  ⟨h.adderLow, h.adderHigh⟩

/-- Settles O31: the take's and the forced Release's own equations; the invariant's ranges keep every register exact. -/
theorem filterArmsFromTheCurrentAdder : Obligations.FilterArmsFromTheCurrentAdder := by
  refine ⟨fun s hsync h => ?_, fun s ha hk hp h => ?_, fun s => fltSyncTake_clear, fun s => fltForceRelease_held⟩
  · have hstep := s.flt.step.isLt
    have hcast : ((128 - s.flt.step.toNat : Nat) : Int) = 128 - s.flt.step.toNat := by omega
    have hslope := (s17Of_slope (n := 128 - s.flt.step.toNat) (by omega) (fltPeakOf_range s) h.adder_range).trans
      (tdiv_eq _ _)
    rw [hcast] at hslope
    rw [fltSyncTake_set hsync, ← fltPeakOf_eq]
    exact ⟨rfl, rfl, s17Of_fltPeakOf s, s17Of_fltPeakOf s, hslope⟩
  · have hslope := (s17Of_slope (a := 0) (n := 128) (by omega) (by omega) h.adder_range).trans (tdiv_eq _ _)
    rw [fltForceRelease_released ha hk hp, ← zero_sub]
    exact ⟨rfl, hslope⟩

/-- The take arms a path from the current adder to the peak over the steps that remain (R232). -/
theorem FilterSafe.fltSyncTake {s : State} (h : FilterSafe s.flt) : FilterSafe (fltSyncTake s).flt := by
  cases hsync : s.sync.filter with
  | false => rwa [fltSyncTake_clear hsync]
  | true =>
    have hstep := s.flt.step.isLt
    have hpeak := fltPeakOf_range s
    have hslope := s17Of_slope (n := 128 - s.flt.step.toNat) (by omega) hpeak h.adder_range
    have hpath := staysOnPath_tdiv (fltPeakOf s - s.flt.adder.toInt) (n := 128 - s.flt.step.toNat) (by omega)
    have hcast : ((128 - s.flt.step.toNat : Nat) : Int) = 128 - s.flt.step.toNat := by omega
    rw [← hslope, hcast] at hpath
    rw [fltSyncTake_set hsync]
    exact { h with
      peakLow := by show _ ≤ (s17Of _).toInt; rw [s17Of_fltPeakOf]; omega
      peakHigh := by show (s17Of _).toInt ≤ _; rw [s17Of_fltPeakOf]; omega
      targetLow := min_le_right _ _
      targetHigh := le_max_right _ _
      idle := nofun
      holding := nofun
      falling := nofun
      path := fun _ _ => by
        show StaysOnPath _ _ ((s17Of (fltPeakOf s)).toInt - _)
        rwa [s17Of_fltPeakOf] }

/-- The forced Release arms a path from the current adder to 0 over a whole stage (R233). -/
theorem FilterSafe.fltForceRelease {s : State} (h : FilterSafe s.flt) : FilterSafe (fltForceRelease s).flt := by
  unfold Machine.fltForceRelease
  split_ifs with hr
  · have hslope := s17Of_slope (a := 0) (n := 128) (by omega) (by omega) h.adder_range
    have hpath := staysOnPath_tdiv (0 - s.flt.adder.toInt) (n := 128) (by omega)
    rw [← hslope] at hpath
    exact { h with
      targetLow := min_le_left _ _
      targetHigh := le_max_left _ _
      idle := fun hoff => absurd hr.1 (by rw [hoff]; decide)
      holding := nofun
      falling := fun _ => rfl
      path := fun _ _ => hpath }
  · exact h

/-! ## One step -/

/-- Attack ends at its target and enters Decay (R237). -/
theorem fltStepOnce_attackEnd {s : State} (hs : s.flt.step.toNat = 127) (hp : s.flt.phase = .attack) :
    fltStepOnce s = { s with
      flt.phase := .decay
      flt.step := 0
      flt.adder := s.flt.target
      flt.target := s17Of (fltDecayTarget s.flt.peak (s.value SlotNo.filterSustain))
      flt.slope := s17Of (tdiv (fltDecayTarget s.flt.peak (s.value SlotNo.filterSustain) - s.flt.target.toInt) 128) } := by
  simp only [fltStepOnce_last hs, fltStageEnd, hp]
  rfl

/-- Decay ends at its target and enters Sustain (R237). -/
theorem fltStepOnce_decayEnd {s : State} (hs : s.flt.step.toNat = 127) (hp : s.flt.phase = .decay) :
    fltStepOnce s = { s with flt.adder := s.flt.target, flt.step := 0, flt.phase := .sustain } := by
  simp only [fltStepOnce_last hs, fltStageEnd, hp]

/-- Sustain has no end of its own; no advance takes a step in it (R236). -/
theorem fltStepOnce_sustainEnd {s : State} (hs : s.flt.step.toNat = 127) (hp : s.flt.phase = .sustain) :
    fltStepOnce s = { s with flt.adder := s.flt.target, flt.step := 0 } := by
  simp only [fltStepOnce_last hs, fltStageEnd, hp]

/-- Release ends at its target and the envelope goes idle (R237). -/
theorem fltStepOnce_releaseEnd {s : State} (hs : s.flt.step.toNat = 127) (hp : s.flt.phase = .release) :
    fltStepOnce s = { s with flt.adder := s.flt.target, flt.step := 0, flt.phase := .attack, flt.active := false } := by
  simp only [fltStepOnce_last hs, fltStageEnd, hp]

/-- The Decay target fits its register and the range of a peak (R237). -/
theorem FilterSafe.decayTarget_range {f : FltRegs} (h : FilterSafe f) (knob : Byte) :
    -32768 ≤ fltDecayTarget f.peak knob ∧ fltDecayTarget f.peak knob ≤ 32512 := by
  have hpl := h.peakLow
  have hph := h.peakHigh
  have hb := fltDecayTarget_between f.peak knob
  omega

/-- A step before the last adds the slope exactly and stays between the adder and the target (R235, R238). -/
theorem FilterSafe.step_exact {f : FltRegs} (h : FilterSafe f) (ha : f.active = true) (hp : f.phase ≠ .sustain) :
    (s17Of (f.adder.toInt + f.slope.toInt)).toInt = f.adder.toInt + f.slope.toInt ∧
      -32768 ≤ f.adder.toInt + f.slope.toInt ∧ f.adder.toInt + f.slope.toInt ≤ 32512 := by
  have hstep := f.step.isLt
  have hbetween := (h.path ha hp).between (k := 1) (by omega) (by omega)
  have htarget := h.target_range
  have hadder := h.adder_range
  rw [one_mul] at hbetween
  exact ⟨s17Of_toInt (by omega) (by omega), by omega, by omega⟩

/-- The count of a step before the last does not wrap. -/
theorem step_succ_toNat {n : BitVec 7} (h : n.toNat < 127) : (n + 1).toNat = n.toNat + 1 := by
  bv_omega

/-- One step of a running stage: before the last it moves along the path; the last arrives and arms the next stage. -/
theorem FilterSafe.fltStepOnce {s : State} (h : FilterSafe s.flt) (ha : s.flt.active = true)
    (hp : s.flt.phase ≠ .sustain) : FilterSafe (fltStepOnce s).flt := by
  have hstep := s.flt.step.isLt
  by_cases hs : s.flt.step.toNat < 127
  · obtain ⟨hexact, hlow, hhigh⟩ := h.step_exact ha hp
    have hpath := (h.path ha hp).step
    rw [fltStepOnce_within hs]
    exact { h with
      adderLow := hexact.symm ▸ hlow
      adderHigh := hexact.symm ▸ hhigh
      idle := fun hoff => absurd ha (by rw [hoff]; decide)
      holding := fun hd => absurd hd hp
      path := fun _ _ => by
        show StaysOnPath _ (128 - ((s.flt.step + 1).toNat : Int)) (_ - (s17Of _).toInt)
        rw [hexact, step_succ_toNat hs]
        convert hpath using 1
        · push_cast; ring
        · ring }
  · have hlast : s.flt.step.toNat = 127 := by omega
    obtain ⟨htl, hth⟩ := h.target_range
    cases hq : s.flt.phase with
    | attack =>
      have hrange := h.decayTarget_range (s.value SlotNo.filterSustain)
      have hbetween := fltDecayTarget_between s.flt.peak (s.value SlotNo.filterSustain)
      have hslope := s17Of_slope (n := 128) (by omega) hrange h.target_range
      have htarget := s17Of_toInt (v := fltDecayTarget s.flt.peak (s.value SlotNo.filterSustain)) (by omega) (by omega)
      have hpath := staysOnPath_tdiv
        (fltDecayTarget s.flt.peak (s.value SlotNo.filterSustain) - s.flt.target.toInt) (n := 128) (by omega)
      rw [← hslope, ← htarget] at hpath
      rw [fltStepOnce_attackEnd hlast hq]
      exact { h with
        targetLow := htarget.symm ▸ hbetween.1
        targetHigh := htarget.symm ▸ hbetween.2
        adderLow := htl
        adderHigh := hth
        idle := fun hoff => absurd ha (by rw [hoff]; decide)
        holding := nofun
        falling := nofun
        path := fun _ _ => by rwa [htarget] at hpath ⊢ }
    | decay =>
      rw [fltStepOnce_decayEnd hlast hq]
      exact { h with
        adderLow := htl
        adderHigh := hth
        idle := fun hoff => absurd ha (by rw [hoff]; decide)
        holding := fun _ => ⟨rfl, rfl⟩
        falling := nofun
        path := fun _ hne => absurd rfl hne }
    | sustain => exact absurd hq hp
    | release =>
      rw [fltStepOnce_releaseEnd hlast hq]
      exact { h with
        adderLow := htl
        adderHigh := hth
        idle := fun _ => ⟨rfl, rfl, h.falling hq⟩
        holding := nofun
        falling := nofun
        path := nofun }

/-- Settles O33: the three ends, with the Decay target and slope exact in their registers. -/
theorem filterStageEndsFollowTheTable : Obligations.FilterStageEndsFollowTheTable := by
  intro s h _ hs
  have hlast : s.flt.step.toNat = 127 := congrArg BitVec.toNat hs
  refine ⟨fun hp => ?_, fltStepOnce_decayEnd hlast, fltStepOnce_releaseEnd hlast⟩
  have hrange := h.decayTarget_range (s.value SlotNo.filterSustain)
  have hslope := (s17Of_slope (n := 128) (by omega) hrange h.target_range).trans (tdiv_eq _ _)
  rw [fltStepOnce_attackEnd hlast hp]
  exact ⟨rfl, s17Of_toInt (by omega) (by omega), hslope⟩

/-! ## The exact arrival -/

/-- What `k` steps short of the end of a stage leave (R235): the same stage and path, `k` steps further along. -/
structure FltAlong (s : State) (k : Nat) (t : State) : Prop where
  safe : FilterSafe t.flt
  active : t.flt.active = s.flt.active
  phase : t.flt.phase = s.flt.phase
  slope : t.flt.slope = s.flt.slope
  target : t.flt.target = s.flt.target
  step : t.flt.step.toNat = s.flt.step.toNat + k
  adder : t.flt.adder.toInt = s.flt.adder.toInt + k * s.flt.slope.toInt

/-- By induction on the number of steps, each of which is before the last. -/
theorem fltAlong_iterate {s : State} (h : FilterSafe s.flt) (ha : s.flt.active = true) (hp : s.flt.phase ≠ .sustain)
    (k : Nat) (hk : k < 128 - s.flt.step.toNat) : FltAlong s k (Nat.iterate fltStepOnce k s) := by
  induction k with
  | zero => exact ⟨h, rfl, rfl, rfl, rfl, rfl, by simp⟩
  | succ k ih =>
    have along := ih (by omega)
    have ha' := along.active.trans ha
    have hp' : (Nat.iterate fltStepOnce k s).flt.phase ≠ .sustain := along.phase ▸ hp
    have hstep := along.step
    have hs : (Nat.iterate fltStepOnce k s).flt.step.toNat < 127 := by omega
    have hsafe := along.safe.fltStepOnce ha' hp'
    have hexact := (along.safe.step_exact ha' hp').1
    rw [fltStepOnce_within hs] at hsafe
    rw [Function.iterate_succ_apply', fltStepOnce_within hs]
    refine ⟨hsafe, along.active, along.phase, along.slope, along.target, ?_, ?_⟩
    · exact (step_succ_toNat hs).trans (by omega)
    · refine hexact.trans ?_
      rw [along.adder, along.slope]
      push_cast
      ring

/-- Settles O32: the steps before the last by induction along the path; the last one by the stage it ends. -/
theorem filterStageReachesItsTargetExactly : Obligations.FilterStageReachesItsTargetExactly := by
  refine ⟨fun s hs => ?_, fun s h ha hp => ⟨fun k hk => ?_, ?_⟩⟩
  · have hcount : s.flt.step + 1 = BitVec.ofNat 7 (s.flt.step.toNat + 1) := by bv_omega
    rw [fltStepOnce_within hs, hcount]
    exact ⟨rfl, fun h ha hp => (h.step_exact ha hp).1⟩
  · have along := fltAlong_iterate h ha hp k hk
    have hbetween := (h.path ha hp).between (k := k) (by omega) (by omega)
    have hadder := along.adder
    exact ⟨hadder, along.step, along.phase, by omega, by omega⟩
  · have hstep := s.flt.step.isLt
    obtain ⟨k, hk⟩ : ∃ k, 128 - s.flt.step.toNat = k + 1 := ⟨127 - s.flt.step.toNat, by omega⟩
    have along := fltAlong_iterate h ha hp k (by omega)
    have hlast : (Nat.iterate fltStepOnce k s).flt.step.toNat = 127 := by have := along.step; omega
    rw [hk, Function.iterate_succ_apply', ← along.target]
    cases hq : s.flt.phase with
    | attack => rw [fltStepOnce_attackEnd hlast (along.phase.trans hq)]; exact ⟨rfl, rfl, rfl⟩
    | decay => rw [fltStepOnce_decayEnd hlast (along.phase.trans hq)]; exact ⟨rfl, rfl, rfl⟩
    | sustain => exact absurd hq hp
    | release => rw [fltStepOnce_releaseEnd hlast (along.phase.trans hq)]; exact ⟨rfl, rfl, rfl⟩

/-! ## The advance and the invariant -/

/-- The rate slot of each stage that runs (R234, R236). -/
def IsRateSlot (q : Stage) (p : Slot) : Prop :=
  (q = .attack ∧ p = SlotNo.filterAttack) ∨ (q = .decay ∧ p = SlotNo.filterDecay) ∨
    (q = .release ∧ p = SlotNo.filterRelease)

theorem exists_rateSlot {q : Stage} (h : q ≠ .sustain) : ∃ p, IsRateSlot q p := by
  cases q with
  | sustain => exact absurd rfl h
  | attack => exact ⟨_, .inl ⟨rfl, rfl⟩⟩
  | decay => exact ⟨_, .inr (.inl ⟨rfl, rfl⟩)⟩
  | release => exact ⟨_, .inr (.inr ⟨rfl, rfl⟩)⟩

/-- Idle and Sustain hold. -/
theorem fltAdvance_hold (c : Tables) {s : State} (h : s.flt.active = false ∨ s.flt.phase = .sustain) :
    fltAdvance c s = s := by
  unfold fltAdvance
  rcases h with h | h <;> simp [h]

/-- A stage that runs is timed by its own rate slot. -/
theorem fltAdvance_running (c : Tables) {s : State} {p : Slot} (ha : s.flt.active = true) (hp : IsRateSlot s.flt.phase p) :
    fltAdvance c s = fltTimed c p s := by
  rcases hp with ⟨hq, rfl⟩ | ⟨hq, rfl⟩ | ⟨hq, rfl⟩ <;> simp only [fltAdvance, ha, hq, if_true]

/-- A running timer is only decremented. -/
theorem fltAdvance_timer (c : Tables) {s : State} (ha : s.flt.active = true) (hp : s.flt.phase ≠ .sustain)
    (ht : s.flt.timer ≠ 0) : fltAdvance c s = { s with flt.timer := s.flt.timer - 1 } := by
  obtain ⟨p, hslot⟩ := exists_rateSlot hp
  rw [fltAdvance_running c ha hslot, fltTimed, if_pos ht]

/-- An expired timer is reloaded from the stage's own rate slot, and one step is taken. -/
theorem fltAdvance_expired (c : Tables) {s : State} {p : Slot} (ha : s.flt.active = true) (ht : s.flt.timer = 0)
    (hp : IsRateSlot s.flt.phase p) :
    fltAdvance c s = fltStepOnce { s with flt.timer := c.fltRate (s.value p) } := by
  rw [fltAdvance_running c ha hp, fltTimed, if_neg (not_not_intro ht)]

theorem FilterSafe.fltAdvance (c : Tables) {s : State} (h : FilterSafe s.flt) : FilterSafe (fltAdvance c s).flt := by
  by_cases hhold : s.flt.active = false ∨ s.flt.phase = .sustain
  · rwa [fltAdvance_hold c hhold]
  obtain ⟨ha, hp⟩ : s.flt.active = true ∧ s.flt.phase ≠ .sustain := by simpa [not_or] using hhold
  by_cases ht : s.flt.timer = 0
  · obtain ⟨p, hslot⟩ := exists_rateSlot hp
    rw [fltAdvance_expired c ha ht hslot]
    exact FilterSafe.fltStepOnce { h with } ha hp
  · rw [fltAdvance_timer c ha hp ht]
    exact { h with }

/-- The filter job keeps the invariant: its envelope part does, and the rest writes only the cutoff and the bus. -/
theorem FilterSafe.filterJob (c : Tables) {s : State} (h : FilterSafe s.flt) : FilterSafe (filterJob c s).flt := by
  have henvelope : FilterSafe (fltEnvelope c s).flt := h.fltSyncTake.fltForceRelease.fltAdvance c
  rw [Machine.filterJob, busStep_frame]
  exact { henvelope with }

/-- The envelope after reset is idle at 0 (R60). -/
theorem FilterSafe.reset : FilterSafe State.reset.flt where
  peakLow := by decide
  peakHigh := by decide
  targetLow := by decide
  targetHigh := by decide
  adderLow := by decide
  adderHigh := by decide
  idle _ := ⟨rfl, rfl, rfl⟩
  holding := nofun
  falling := nofun
  path := nofun

/-- Only the filter job and RESET write the filter registers. -/
theorem filterSafe_kept : KeptByOperations fun s => FilterSafe s.flt where
  begins _ _ h := h
  audioTick s h := by rwa [audioTick_frame]
  slowTick _ h := h
  clearSlowPending _ h := h
  amplitudeStep s h := by rwa [amplitudeStep_frame]
  filterJob _ h := h.filterJob Config.tables
  pitchJob s h := by rwa [pitchJob_frame]
  lfoJob s h := by rwa [lfoJob_frame]
  advanceRoundRobin _ h := h
  noteOn _ _ _ h := h
  noteOff a s h := by
    unfold noteOff
    split_ifs <;> exact h
  inject p b s h := by rwa [inject_frame]
  knobReading p b s h := by rwa [knobReading_frame]
  reset _ _ := FilterSafe.reset
  busReady _ _ h := h

/-- Settles O38: every step keeps what the parts of the operations keep. -/
theorem everyStepKeepsTheFilterInvariant : Obligations.EveryStepKeepsTheFilterInvariant :=
  fun _ _ h hstep => filterSafe_kept.step h hstep

end Sys2Proof.Machine
end

section
/-! PROOF. The filter job around the envelope (spec/44_filter_envelope.md R230, R240 to R248): the antilog curve, the bus sequencer
state by state, the job's parts and frame, and the service of the resonance pot. -/

namespace Sys2Proof.Machine

open Sys2Proof.Config (Tables)

/-! ## Interpolation -/

/-- A floored interpolation between two levels stays between them. -/
theorem interpolate_between (a b : Int) {f n : Int} (h0 : 0 ≤ f) (hf : f ≤ n) (hn : 0 < n) :
    min a b ≤ a + (b - a) * f / n ∧ a + (b - a) * f / n ≤ max a b := by
  rcases le_total a b with hab | hab
  · have hlow : 0 ≤ (b - a) * f / n := Int.ediv_nonneg (mul_nonneg (by omega) h0) hn.le
    have hhigh : (b - a) * f / n ≤ b - a := Int.ediv_le_of_le_mul hn (mul_le_mul_of_nonneg_left hf (by omega))
    omega
  · have hhigh : (b - a) * f / n ≤ 0 := by
      have := Int.ediv_le_ediv hn (mul_nonpos_of_nonpos_of_nonneg (show b - a ≤ 0 by omega) h0)
      rwa [Int.zero_ediv] at this
    have hlow : b - a ≤ (b - a) * f / n := Int.le_ediv_of_mul_le hn (mul_le_mul_of_nonpos_left hf (by omega))
    omega

/-- Between two bytes it is a byte. -/
theorem byteOf_interpolate (a b : Byte) {f n : Int} (h0 : 0 ≤ f) (hf : f ≤ n) (hn : 0 < n) :
    ((byteOf ((a.toNat : Int) + ((b.toNat : Int) - a.toNat) * f / n)).toNat : Int) =
      a.toNat + ((b.toNat : Int) - a.toNat) * f / n := by
  have hbetween := interpolate_between (a.toNat : Int) b.toNat h0 hf hn
  have ha := a.isLt
  have hb := b.isLt
  exact byteOf_toNat (by omega) (by omega)

/-! ## The antilog curve -/

/-- The breakpoint register holds the running maximum without a wrap. -/
theorem antilogBreak_toNat (c : Tables) (j : Fin 9) :
    (antilogBreak c j).toNat = runningMax (fun i => (c.antilogRaw (Fin.ofNat 9 i)).toNat) j.val := by
  have hle := runningMax_le (fun i => (c.antilogRaw (Fin.ofNat 9 i)).toNat) (top := 255)
    (fun i => Nat.le_of_lt_succ (c.antilogRaw (Fin.ofNat 9 i)).isLt) j.val
  rw [antilogBreak, BitVec.toNat_ofNat, Nat.mod_eq_of_lt (Nat.lt_succ_of_le hle)]

/-- The breakpoints never fall (R6, R241). -/
theorem antilogBreak_mono (c : Tables) {i j : Fin 9} (h : i ≤ j) : (antilogBreak c i).toNat ≤ (antilogBreak c j).toNat := by
  rw [antilogBreak_toNat, antilogBreak_toNat]
  exact runningMax_mono _ h

/-- The breakpoint at the start of a segment, or after the last one. -/
def breakpoint (c : Tables) (k : Nat) : Nat := (antilogBreak c (Fin.ofNat 9 k)).toNat

theorem breakpoint_mono (c : Tables) {k l : Nat} (h : k ≤ l) (hl : l ≤ 8) : breakpoint c k ≤ breakpoint c l := by
  apply antilogBreak_mono
  rw [Fin.le_def, Fin.val_ofNat, Fin.val_ofNat]
  omega

/-- The curve is linear between breakpoints, floored (R241). -/
theorem antilog_toNat (c : Tables) (x : Byte) :
    ((antilog c x).toNat : Int) = breakpoint c (x.toNat / 32) +
      ((breakpoint c (x.toNat / 32 + 1) : Int) - breakpoint c (x.toNat / 32)) * (x.toNat % 32 : Nat) / 32 := by
  unfold antilog
  dsimp only
  rw [floorShift_five]
  exact byteOf_interpolate _ _ (by omega) (by omega) (by omega)

/-- Within a segment it stays between the segment's breakpoints. -/
theorem antilog_between (c : Tables) (x : Byte) :
    breakpoint c (x.toNat / 32) ≤ (antilog c x).toNat ∧ (antilog c x).toNat ≤ breakpoint c (x.toNat / 32 + 1) := by
  have hx := x.isLt
  have hmono := breakpoint_mono c (k := x.toNat / 32) (l := x.toNat / 32 + 1) (by omega) (by omega)
  have hbetween := interpolate_between (breakpoint c (x.toNat / 32)) (breakpoint c (x.toNat / 32 + 1))
    (f := (x.toNat % 32 : Nat)) (n := 32) (by omega) (by omega) (by omega)
  rw [← antilog_toNat] at hbetween
  omega

/-- It never falls: within a segment by the slope, across segments by the breakpoints between. -/
theorem antilog_mono (c : Tables) {x y : Byte} (h : x.toNat ≤ y.toNat) : (antilog c x).toNat ≤ (antilog c y).toNat := by
  have hx := x.isLt
  have hy := y.isLt
  have hxb := antilog_between c x
  have hyb := antilog_between c y
  rcases (Nat.div_le_div_right (c := 32) h).eq_or_lt with hseg | hseg
  · have hrise := breakpoint_mono c (k := x.toNat / 32) (l := x.toNat / 32 + 1) (by omega) (by omega)
    have hfrac : ((x.toNat % 32 : Nat) : Int) ≤ (y.toNat % 32 : Nat) := by omega
    have hprod := Int.ediv_le_ediv (c := 32) (by omega) (mul_le_mul_of_nonneg_left hfrac
      (show 0 ≤ (breakpoint c (x.toNat / 32 + 1) : Int) - breakpoint c (x.toNat / 32) by omega))
    have hxv := antilog_toNat c x
    have hyv := antilog_toNat c y
    rw [← hseg] at hyv
    omega
  · have hmid := breakpoint_mono c (k := x.toNat / 32 + 1) (l := y.toNat / 32) (by omega) (by omega)
    omega

/-- Settles O36: the formula, and three consequences of the breakpoints' order. -/
theorem antilogIsMonotone : Obligations.AntilogIsMonotone := by
  refine ⟨antilog_toNat Config.tables, fun x y => antilog_mono Config.tables, fun x => ?_,
    fun i j => antilogBreak_mono Config.tables⟩
  have hx := x.isLt
  have hbetween := antilog_between Config.tables x
  have hfirst := breakpoint_mono Config.tables (k := 0) (l := x.toNat / 32) (by omega) (by omega)
  have hlast := breakpoint_mono Config.tables (k := x.toNat / 32 + 1) (l := 8) (by omega) (by omega)
  exact ⟨hfirst.trans hbetween.1, hbetween.2.trans hlast⟩

/-! ## The bus sequencer -/

/-- A write goes out when the value differs from the last one written and the bus is ready (R242, R247). -/
theorem busWrites_iff (s : State) (v : Byte) (last : Last9) :
    busWrites s v last = true ↔ s.bus.ready = true ∧ v.toNat ≠ last.toNat := by
  have hne : v.setWidth 9 ≠ last ↔ v.toNat ≠ last.toNat := by
    have hv := v.isLt
    rw [Ne, BitVec.toNat_eq, BitVec.toNat_setWidth, Nat.mod_eq_of_lt (by omega)]
  rw [busWrites, Bool.and_eq_true, decide_eq_true_iff, hne, and_comm]

theorem busStep_f1 (c : Tables) {s : State} (h : s.bus.state = .f1) :
    busStep c s =
      if s.bus.ready = true ∧ (antilog c s.flt.cutoff).toNat ≠ s.bus.lastF1.toNat then
        { s with
          bus.latch := antilog c s.flt.cutoff
          bus.lastF1 := (antilog c s.flt.cutoff).setWidth 9
          bus.state := .f2
          emitted := s.emitted ++ [⟨.freq1, antilog c s.flt.cutoff⟩] }
      else { s with bus.latch := antilog c s.flt.cutoff, bus.state := .f2 } := by
  simp only [busStep, busState, h, busWrites_iff]
  split_ifs <;> rfl

theorem busStep_f2 (c : Tables) {s : State} (h : s.bus.state = .f2) :
    busStep c s =
      if s.bus.ready = true ∧ s.bus.latch.toNat ≠ s.bus.lastF2.toNat then
        { s with
          bus.lastF2 := s.bus.latch.setWidth 9
          bus.state := .res
          emitted := s.emitted ++ [⟨.freq2, s.bus.latch⟩] }
      else { s with bus.state := .res } := by
  simp only [busStep, busState, h, busWrites_iff]
  split_ifs <;> rfl

theorem busStep_res (c : Tables) {s : State} (h : s.bus.state = .res) :
    busStep c s =
      if s.bus.ready = true ∧ (s.value SlotNo.filterQ).toNat ≠ s.bus.lastQ.toNat then
        { s with
          bus.lastQ := (s.value SlotNo.filterQ).setWidth 9
          bus.state := .wait
          emitted := s.emitted ++ [⟨.resonance, s.value SlotNo.filterQ⟩] }
      else { s with bus.state := .wait } := by
  simp only [busStep, busState, h, busWrites_iff]
  split_ifs <;> rfl

theorem busStep_wait (c : Tables) {s : State} (h : s.bus.state = .wait) : busStep c s = { s with bus.state := .f1 } := by
  simp only [busStep, busState, h, nextBusState]

/-- Settles O35: the four states. -/
theorem busSequencerSkipsUnchangedAndUnreadyWrites : Obligations.BusSequencerSkipsUnchangedAndUnreadyWrites :=
  fun _ => ⟨busStep_f1 _, busStep_f2 _, busStep_res _, busStep_wait _⟩

/-- What every state of the sequencer does: it advances, leaves the readiness level, and emits at most one request. -/
theorem busStep_advances (c : Tables) (s : State) :
    (busStep c s).bus.state = nextBusState s.bus.state ∧ (busStep c s).bus.ready = s.bus.ready ∧
      ((busStep c s).emitted = s.emitted ∨ ∃ r, (busStep c s).emitted = s.emitted ++ [r]) := by
  cases h : s.bus.state with
  | f1 => rw [busStep_f1 c h]; split_ifs <;> simp [nextBusState]
  | f2 => rw [busStep_f2 c h]; split_ifs <;> simp [nextBusState]
  | res => rw [busStep_res c h]; split_ifs <;> simp [nextBusState]
  | wait => rw [busStep_wait c h]; simp [nextBusState]

/-- With the bus ready, the resonance pot takes FILTER_Q in its own state, whether by a write or by holding it already, and holds in
the others (R246). -/
theorem busStep_lastQ (c : Tables) {s : State} (hready : s.bus.ready = true) :
    (busStep c s).bus.lastQ =
      if s.bus.state = .res then (s.value SlotNo.filterQ).setWidth 9 else s.bus.lastQ := by
  cases h : s.bus.state with
  | f1 => rw [busStep_f1 c h]; split_ifs <;> simp_all
  | f2 => rw [busStep_f2 c h]; split_ifs <;> simp_all
  | res =>
    rw [busStep_res c h, if_pos (show BusState.res = .res from rfl)]
    split_ifs with hw
    · rfl
    · have heq : (s.value SlotNo.filterQ).toNat = s.bus.lastQ.toNat := by simpa [hready] using hw
      apply BitVec.eq_of_toNat_eq
      rw [BitVec.toNat_setWidth, Nat.mod_eq_of_lt (by omega), heq]
  | wait => rw [busStep_wait c h]; simp

/-! ## The job -/

/-- The state the job hands to the bus step: the envelope advanced and the cutoff written. -/
theorem filterJob_eq (c : Tables) (s : State) : filterJob c s = busStep c (fltCutoffWrite (fltEnvelope c s)) := rfl

/-- That state differs from the one before the job in the sync flag and the filter registers only. -/
theorem fltCutoffWrite_envelope_frame (c : Tables) (s : State) :
    fltCutoffWrite (fltEnvelope c s) =
      { s with sync.filter := false, flt := (fltCutoffWrite (fltEnvelope c s)).flt } := by
  unfold fltCutoffWrite
  rw [fltEnvelope_frame]

/-- What the job does to the bus registers and the requests; the slots hold. -/
theorem filterJob_bus (c : Tables) (s : State) :
    (filterJob c s).bus.state = nextBusState s.bus.state ∧ (filterJob c s).bus.ready = s.bus.ready ∧
      ((filterJob c s).emitted = s.emitted ∨ ∃ r, (filterJob c s).emitted = s.emitted ++ [r]) ∧
      (s.bus.ready = true → (filterJob c s).bus.lastQ =
        if s.bus.state = .res then (s.value SlotNo.filterQ).setWidth 9 else s.bus.lastQ) := by
  have hframe := fltCutoffWrite_envelope_frame c s
  have hstore : (fltCutoffWrite (fltEnvelope c s)).store = s.store := by rw [hframe]
  have hbus : (fltCutoffWrite (fltEnvelope c s)).bus = s.bus := by rw [hframe]
  have hout : (fltCutoffWrite (fltEnvelope c s)).emitted = s.emitted := by rw [hframe]
  obtain ⟨hstate, hready, hemitted⟩ := busStep_advances c (fltCutoffWrite (fltEnvelope c s))
  have hlast := busStep_lastQ c (s := fltCutoffWrite (fltEnvelope c s))
  rw [hbus] at hstate hready hlast
  rw [hout] at hemitted
  rw [value_congr hstore] at hlast
  exact ⟨hstate, hready, hemitted, hlast⟩

/-- The filter job leaves every slot. -/
@[simp] theorem filterJob_value (c : Tables) (s : State) (p : Slot) : (filterJob c s).value p = s.value p :=
  value_congr (by rw [filterJob_frame]) p

/-- Settles O34: the parts by definition, the cutoff by its saturation, the frame and the bus by their own lemmas; the advance by
its cases. -/
theorem filterJobWritesCutoffAndOneBusState : Obligations.FilterJobWritesCutoffAndOneBusState := by
  refine ⟨fun s => ⟨filterJob Config.tables s, rfl, ?_⟩, fun s => fltAdvance_hold _, fun s ha hp ht => ?_,
    fun s p ha ht hp => fltAdvance_expired _ ha ht hp⟩
  · have hflt : (filterJob Config.tables s).flt = (fltCutoffWrite (fltEnvelope Config.tables s)).flt := by
      rw [filterJob_eq, busStep_frame]
    have hvalue : (fltEnvelope Config.tables s).value SlotNo.filterCutoff = s.value SlotNo.filterCutoff :=
      value_congr (by rw [fltEnvelope_frame]) _
    obtain ⟨hstate, hready, hemitted, -⟩ := filterJob_bus Config.tables s
    refine ⟨?_, ?_, ?_, hstate, hready, hemitted, filterJob_frame _ _⟩
    · rw [hflt]
      show ((sat8 (((fltEnvelope Config.tables s).value SlotNo.filterCutoff).toNat + floorShift _ 7)).toNat : Int) = _
      rw [sat8_toNat, hvalue, floorShift_seven]
      rfl
    · rw [hflt]; rfl
    · rw [hflt]; rfl
  · have htimer : s.flt.timer - 1 = BitVec.ofNat 8 (s.flt.timer.toNat - 1) := by bv_omega
    rw [fltAdvance_timer _ ha hp ht, htimer]

/-- Settles O37: whichever state the sequencer starts in, one of four jobs is the resonance state's, and the rotation closes. -/
theorem resonanceIsServedWithinFourFilterJobs : Obligations.ResonanceIsServedWithinFourFilterJobs := by
  rintro s _ _ _ _ hready ⟨⟩ ⟨⟩ ⟨⟩ ⟨⟩
  obtain ⟨sa, ra, -, la⟩ := filterJob_bus Config.tables s
  obtain ⟨sb, rb, -, lb⟩ := filterJob_bus Config.tables (filterJob Config.tables s)
  obtain ⟨sc, rc, -, lc⟩ := filterJob_bus Config.tables (filterJob Config.tables (filterJob Config.tables s))
  obtain ⟨sd, -, -, ld⟩ := filterJob_bus Config.tables
    (filterJob Config.tables (filterJob Config.tables (filterJob Config.tables s)))
  have hb := ra.trans hready
  have hc := rb.trans hb
  have hd := rc.trans hc
  refine ⟨?_, by rw [sd, sc, sb, sa, nextBusState_four]⟩
  rw [ld hd, lc hc, lb hb, la hready, sc, sb, sa]
  simp only [filterJob_value]
  cases s.bus.state <;> simp [nextBusState]

end Sys2Proof.Machine
end

section
/-! PROOF. The pitch job (spec/42_pitch_glide.md R190 to R200): detune and pitch shift, bypass and retarget, the glide's exact arrival,
and the glide registers' invariant. -/

namespace Sys2Proof.Machine

open Sys2Proof.Config (Tables)

/-! ## Retarget -/

/-- The increment fits its register: it is not larger than the distance. -/
theorem s17Of_glideInc {delta : Int} (L : Nat) (h0 : -65536 ≤ delta) (h1 : delta ≤ 65535) :
    (s17Of (glideInc delta L)).toInt = glideInc delta L := by
  rw [glideInc_eq]
  split_ifs
  · have hsign := Int.sign_trichotomy delta
    exact s17Of_toInt (by omega) (by omega)
  · have hfit := s17Of_tdiv_toInt (b := 2 ^ L) (by positivity) h0 h1
    rw [tdiv_eq] at hfit
    exact_mod_cast hfit

/-- The step count fits its register. -/
theorem glideTotal_le {delta : Int} {L : Nat} (hL : L ≤ 12) (h : delta.natAbs ≤ 65535) : glideTotal delta L ≤ 65535 := by
  have hpow : 2 ^ L ≤ 2 ^ 12 := Nat.pow_le_pow_right (by omega) hL
  unfold glideTotal
  split_ifs <;> omega

/-- Increment and step count form a path over the distance (R198). -/
theorem staysOnPath_glide (delta : Int) (L : Nat) : StaysOnPath (glideInc delta L) (glideTotal delta L) delta := by
  rw [glideInc_eq]
  unfold glideTotal
  split_ifs with hsmall
  · rcases le_total 0 delta with h | h
    · exact .inl ⟨Int.sign_nonneg_iff.2 h, (Int.sign_mul_natAbs delta).le⟩
    · exact .inr ⟨Int.sign_nonpos_iff.2 h, (Int.sign_mul_natAbs delta).ge⟩
  · have hpath := staysOnPath_tdiv delta (n := 2 ^ L) (by positivity)
    rw [tdiv_eq] at hpath
    exact_mod_cast hpath

/-- A path of no steps has no distance to go. -/
theorem glideTotal_eq_zero {delta : Int} {L : Nat} (h : glideTotal delta L = 0) : delta = 0 := by
  have hpow : 0 < 2 ^ L := by positivity
  unfold glideTotal at h
  split_ifs at h <;> omega

/-- The distance between two frequencies. -/
theorem freqDistance_range (a b : Word16) :
    -65536 ≤ (a.toNat : Int) - b.toNat ∧ (a.toNat : Int) - b.toNat ≤ 65535 ∧ ((a.toNat : Int) - b.toNat).natAbs ≤ 65535 := by
  have ha := a.isLt
  have hb := b.isLt
  omega

/-- The total register of a retarget, exactly. -/
theorem retargetOsc_total (c : Tables) (shift : Int) {L : Nat} (hL : L ≤ 12) (o : OscRegs) :
    (retargetOsc c shift L o).total.toNat =
      glideTotal (((retargetOsc c shift L o).targetFreq.toNat : Int) - o.noteFrequency.toNat) L := by
  have hle := glideTotal_le hL (freqDistance_range (retargetOsc c shift L o).targetFreq o.noteFrequency).2.2
  exact (BitVec.toNat_ofNat _ _).trans (Nat.mod_eq_of_lt (Nat.lt_succ_of_le hle))

/-- The increment register of a retarget, exactly. -/
theorem retargetOsc_inc (c : Tables) (shift : Int) (L : Nat) (o : OscRegs) :
    (retargetOsc c shift L o).inc.toInt =
      glideInc (((retargetOsc c shift L o).targetFreq.toNat : Int) - o.noteFrequency.toNat) L := by
  obtain ⟨h0, h1, -⟩ := freqDistance_range (retargetOsc c shift L o).targetFreq o.noteFrequency
  exact s17Of_glideInc L h0 h1

/-- A retarget arms a path from the sounding frequency, whatever the registers before. -/
theorem GlideSafe.retargetOsc (c : Tables) (shift : Int) {L : Nat} (hL : L ≤ 12) (o : OscRegs) :
    GlideSafe (retargetOsc c shift L o) where
  countLe := Nat.zero_le _
  arrived h := by
    have hzero : (Machine.retargetOsc c shift L o).total.toNat = 0 := congrArg BitVec.toNat h.symm
    rw [retargetOsc_total c shift hL] at hzero
    have hdelta := glideTotal_eq_zero hzero
    exact BitVec.eq_of_toNat_eq (by
      show o.noteFrequency.toNat = (Machine.retargetOsc c shift L o).targetFreq.toNat
      omega)
  path := by
    have hpath := staysOnPath_glide
      (((Machine.retargetOsc c shift L o).targetFreq.toNat : Int) - o.noteFrequency.toNat) L
    rw [← retargetOsc_inc, ← retargetOsc_total c shift hL] at hpath
    have hcount : ((Machine.retargetOsc c shift L o).count.toNat : Int) = 0 := rfl
    rw [hcount, sub_zero]
    exact hpath

/-- Settles O43: the registers hold the increment and the count exactly. -/
theorem retargetFormsTheIncrement : Obligations.RetargetFormsTheIncrement := by
  intro o shift L hL
  refine ⟨clampNote_toNat _, rfl, rfl, ?_, rfl, GlideSafe.retargetOsc _ shift hL o⟩
  rw [retargetOsc_inc, retargetOsc_total _ shift hL, glideInc_eq, glideTotal]
  split_ifs <;> exact ⟨rfl, rfl⟩

/-! ## The glide step -/

theorem glideStepOsc_hold {o : OscRegs} (h : o.total.toNat ≤ o.count.toNat) : glideStepOsc o = o :=
  if_neg (by omega)

theorem glideStepOsc_last {o : OscRegs} (h : o.count.toNat + 1 = o.total.toNat) :
    glideStepOsc o = { o with count := o.count + 1, noteFrequency := o.targetFreq } := by
  rw [glideStepOsc, if_pos (by omega), if_pos h]

theorem glideStepOsc_within {o : OscRegs} (h : o.count.toNat + 1 < o.total.toNat) :
    glideStepOsc o =
      { o with count := o.count + 1, noteFrequency := word16Of (o.noteFrequency.toNat + o.inc.toInt) } := by
  rw [glideStepOsc, if_pos (by omega), if_neg (by omega)]

/-- The count of a step that is taken does not wrap. -/
theorem count_succ_toNat {o : OscRegs} (h : o.count.toNat < o.total.toNat) : (o.count + 1).toNat = o.count.toNat + 1 := by
  have := o.total.isLt
  bv_omega

/-- A step before the last adds the increment exactly. -/
theorem GlideSafe.step_exact {o : OscRegs} (h : GlideSafe o) (hc : o.count.toNat < o.total.toNat) :
    ((word16Of (o.noteFrequency.toNat + o.inc.toInt)).toNat : Int) = o.noteFrequency.toNat + o.inc.toInt := by
  have hbetween := h.path.between (k := 1) (by omega) (by omega)
  have hfreq := o.noteFrequency.isLt
  have htarget := o.targetFreq.isLt
  rw [one_mul] at hbetween
  exact word16Of_toNat (by omega) (by omega)

/-- A step before the last moves along the path; the last arrives; then the registers hold. -/
theorem GlideSafe.glideStepOsc {o : OscRegs} (h : GlideSafe o) : GlideSafe (glideStepOsc o) := by
  rcases lt_trichotomy (o.count.toNat + 1) o.total.toNat with hlt | heq | hgt
  · have hcount := count_succ_toNat (o := o) (by omega)
    have hle : (o.count + 1).toNat ≤ o.total.toNat := by omega
    have hexact := h.step_exact (by omega)
    have hpath := h.path.step
    rw [glideStepOsc_within hlt]
    exact {
      countLe := hle
      arrived := fun harr => by
        have : (o.count + 1).toNat = o.total.toNat := congrArg BitVec.toNat harr
        omega
      path := by
        show StaysOnPath _ (_ - ((o.count + 1).toNat : Int)) (_ - ((word16Of _).toNat : Int))
        rw [hexact, hcount]
        convert hpath using 1
        · push_cast; ring
        · ring }
  · have hcount := count_succ_toNat (o := o) (by omega)
    have hle : (o.count + 1).toNat ≤ o.total.toNat := by omega
    rw [glideStepOsc_last heq]
    exact {
      countLe := hle
      arrived := fun _ => rfl
      path := by
        show StaysOnPath _ (_ - ((o.count + 1).toNat : Int)) (_ - (o.targetFreq.toNat : Int))
        rw [hcount, ← heq, sub_self, sub_self]
        rcases le_total 0 o.inc.toInt with hi | hi
        · exact .inl ⟨hi, by simp⟩
        · exact .inr ⟨hi, by simp⟩ }
  · rwa [glideStepOsc_hold (by omega)]

/-- What `k` steps short of the end of a glide leave (R199): the same path, `k` increments further along. -/
structure GlideAlong (o : OscRegs) (k : Nat) (t : OscRegs) : Prop where
  safe : GlideSafe t
  inc : t.inc = o.inc
  targetFreq : t.targetFreq = o.targetFreq
  total : t.total = o.total
  count : t.count.toNat = o.count.toNat + k
  freq : (t.noteFrequency.toNat : Int) = o.noteFrequency.toNat + k * o.inc.toInt

/-- By induction on the number of steps, each of which is before the last. -/
theorem glideAlong_iterate {o : OscRegs} (h : GlideSafe o) (k : Nat) (hk : k < o.total.toNat - o.count.toNat) :
    GlideAlong o k (Nat.iterate glideStepOsc k o) := by
  induction k with
  | zero => exact ⟨h, rfl, rfl, rfl, rfl, by simp⟩
  | succ k ih =>
    have along := ih (by omega)
    have hcount := along.count
    have htotal := congrArg BitVec.toNat along.total
    have hsafe := along.safe.glideStepOsc
    have hexact := along.safe.step_exact (by omega)
    have hlt : (Nat.iterate Machine.glideStepOsc k o).count.toNat + 1 <
        (Nat.iterate Machine.glideStepOsc k o).total.toNat := by omega
    rw [glideStepOsc_within hlt] at hsafe
    rw [Function.iterate_succ_apply', glideStepOsc_within hlt]
    refine ⟨hsafe, along.inc, along.targetFreq, along.total, ?_, ?_⟩
    · exact (count_succ_toNat (by omega)).trans (by omega)
    · refine hexact.trans ?_
      rw [along.freq, along.inc]
      push_cast
      ring

/-- After the remaining number of steps the frequency is the target and the count the total. -/
theorem glide_arrives {o : OscRegs} (h : GlideSafe o) :
    (Nat.iterate glideStepOsc (o.total.toNat - o.count.toNat) o).noteFrequency = o.targetFreq ∧
      (Nat.iterate glideStepOsc (o.total.toNat - o.count.toNat) o).count = o.total ∧
      (Nat.iterate glideStepOsc (o.total.toNat - o.count.toNat) o).total = o.total := by
  have hle := h.countLe
  cases hn : o.total.toNat - o.count.toNat with
  | zero =>
    have heq : o.count = o.total := BitVec.eq_of_toNat_eq (by omega)
    exact ⟨h.arrived heq, heq, rfl⟩
  | succ k =>
    have along := glideAlong_iterate h k (by omega)
    have hcount := along.count
    have htotal := congrArg BitVec.toNat along.total
    rw [Function.iterate_succ_apply', glideStepOsc_last (by omega)]
    refine ⟨along.targetFreq, BitVec.eq_of_toNat_eq ?_, along.total⟩
    exact (count_succ_toNat (by omega)).trans (by omega)

/-- Settles O44: the single step by its cases, the way by induction, and after the arrival the registers hold. -/
theorem glideReachesTheTargetExactly : Obligations.GlideReachesTheTargetExactly := by
  refine ⟨fun o hc => ⟨?_, fun heq => by rw [glideStepOsc_last heq]⟩, fun o => glideStepOsc_hold,
    fun o h => ⟨fun k hk => ?_, fun k hk => ?_⟩⟩
  · have hcount : o.count + 1 = BitVec.ofNat 16 (o.count.toNat + 1) := by bv_omega
    rcases (Nat.succ_le_of_lt hc).lt_or_eq with hlt | heq
    · rw [glideStepOsc_within hlt, hcount]
    · rw [glideStepOsc_last heq, hcount]
  · have along := glideAlong_iterate h k hk
    have hbetween := h.path.between (k := k) (by omega) (by omega)
    have hfreq := along.freq
    exact ⟨hfreq, by omega, by omega, along.count⟩
  · obtain ⟨hfreq, hcount, htotal⟩ := glide_arrives h
    obtain ⟨m, rfl⟩ := Nat.exists_eq_add_of_le' hk
    have hrest : Nat.iterate glideStepOsc m (Nat.iterate glideStepOsc (o.total.toNat - o.count.toNat) o) =
        Nat.iterate glideStepOsc (o.total.toNat - o.count.toNat) o :=
      Function.iterate_fixed (glideStepOsc_hold (by rw [hcount, htotal])) m
    dsimp only
    rw [Function.iterate_add_apply, hrest]
    exact ⟨hfreq, hcount⟩

/-! ## The job -/

/-- Settles O40: on either side of the centre the shift is the truncated quarter. -/
theorem pitchShiftIsAQuarterTowardZero : Obligations.PitchShiftIsAQuarterTowardZero := by
  refine ⟨fun ps => ?_, pitchField_toNat⟩
  unfold pitchShift
  split_ifs with h
  · rw [floorShift_two, Int.tdiv_eq_ediv_of_nonneg (by omega)]
  · rw [floorShift_two, ← neg_sub 64, Int.neg_tdiv, Int.tdiv_eq_ediv_of_nonneg (by omega)]

/-- The three conditions of glide mode (R193). -/
theorem glideRequired_iff (c : Tables) (s : State) :
    glideRequired c s (pitchField s) = true ↔
      (dest c s = SlotNo.pitchShift ∧ 1 < (s.value SlotNo.lfoAmount).toNat) ∨
        (s.value SlotNo.pitchShift).toNat / 2 ≠ 64 ∨ (s.value SlotNo.portamento).toNat ≠ 0 := by
  have hps : pitchField s = 64 ↔ (s.value SlotNo.pitchShift).toNat / 2 = 64 := by
    rw [← pitchField_toNat]; exact BitVec.toNat_inj.symm
  have hpo : s.value SlotNo.portamento = 0 ↔ (s.value SlotNo.portamento).toNat = 0 := BitVec.toNat_inj.symm
  simp only [glideRequired, Bool.or_eq_true, Bool.and_eq_true, decide_eq_true_eq, ne_eq, hps, hpo, or_assoc]

/-- `L` in plain numbers, and its bound (R195). -/
theorem stepLog2_eq (s : State) :
    stepLog2 s = (if (s.value SlotNo.portamento).toNat = 0 then 7 else 5 + (s.value SlotNo.portamento).toNat / 32) := by
  have hpo : s.value SlotNo.portamento = 0 ↔ (s.value SlotNo.portamento).toNat = 0 := BitVec.toNat_inj.symm
  simp only [stepLog2, ne_eq, hpo, portamentoField_toNat, ite_not]

theorem stepLog2_le (s : State) : stepLog2 s ≤ 12 := by
  have := (s.value SlotNo.portamento).isLt
  rw [stepLog2_eq]
  split_ifs <;> omega

/-- In the bypass, the job is the lookup between the detune and the bookkeeping. -/
theorem pitchJob_bypass (c : Tables) {s : State} (h : glideRequired c s (pitchField s) = false) :
    pitchJob c s = pitchBookkeeping (pitchField s) (bypass c (detune s)) := by
  have h' : glideRequired c (detune s) (pitchField (detune s)) = false := h
  rw [pitchJob, h', if_neg (by decide)]
  rfl

/-- In glide mode it is the glide. -/
theorem pitchJob_glide (c : Tables) {s : State} (h : glideRequired c s (pitchField s) = true) :
    pitchJob c s = pitchBookkeeping (pitchField s) (glide c (pitchField s) (detune s)) := by
  have h' : glideRequired c (detune s) (pitchField (detune s)) = true := h
  rw [pitchJob, h', if_pos rfl]
  rfl

/-- The glide of one oscillator (R190): retargeted first when anything changed. -/
def glideOsc (c : Tables) (ps : Note) (s : State) (o : OscRegs) : OscRegs :=
  if retargetTrigger s ps then glideStepOsc (retargetOsc c (pitchShift ps) (stepLog2 s) o) else glideStepOsc o

theorem glide_eq (c : Tables) (ps : Note) (s : State) :
    glide c ps s = { s with osc1 := glideOsc c ps s s.osc1, osc2 := glideOsc c ps s s.osc2 } := by
  unfold glide glideOsc
  split_ifs <;> rfl

/-- The glide leaves the note and the phase. -/
theorem glideOsc_frame (c : Tables) (ps : Note) (s : State) (o : OscRegs) :
    (glideOsc c ps s o).noteIndex = o.noteIndex ∧ (glideOsc c ps s o).phase = o.phase := by
  unfold glideOsc
  split_ifs
  · rw [glideStepOsc_frame]; exact ⟨rfl, rfl⟩
  · rw [glideStepOsc_frame]; exact ⟨rfl, rfl⟩

/-- The glide keeps the invariant. -/
theorem GlideSafe.glideOsc (c : Tables) (ps : Note) (s : State) {o : OscRegs} (h : GlideSafe o) :
    GlideSafe (glideOsc c ps s o) := by
  unfold Machine.glideOsc
  split_ifs
  · exact (GlideSafe.retargetOsc c _ (stepLog2_le s) o).glideStepOsc
  · exact h.glideStepOsc

/-- The bypass has arrived. -/
theorem GlideSafe.bypassOsc (c : Tables) (o : OscRegs) : GlideSafe (bypassOsc c o) where
  countLe := le_rfl
  arrived _ := rfl
  path := .inl ⟨le_rfl, by simp [Machine.bypassOsc]⟩

/-- Settles O39: the detune writes the second note, the bookkeeping the last notes and `g_last_ps`; bypass and glide between them
leave notes and phases. -/
theorem pitchJobDetunesAndKeepsBooks : Obligations.PitchJobDetunesAndKeepsBooks := by
  intro s
  have hnote : ((detunedNote s.osc1.noteIndex (detuneField s)).toNat : Int) =
      max 0 (min 127 ((s.osc1.noteIndex.toNat : Int) + ((s.value SlotNo.oscDetune).toNat / 8 : Nat) - 16)) := by
    rw [detunedNote, clampNote_toNat, detuneField_toNat]
  refine ⟨pitchJob Config.tables s, rfl, ?_⟩
  have hframe := pitchJob_frame Config.tables s
  cases hmode : glideRequired Config.tables s (pitchField s) with
  | false =>
    rw [pitchJob_bypass _ hmode] at hframe ⊢
    exact ⟨hnote, rfl, pitchField_toNat s, rfl, rfl, rfl, rfl, hframe⟩
  | true =>
    obtain ⟨hnote1, hphase1⟩ := glideOsc_frame Config.tables (pitchField s) (detune s) (detune s).osc1
    obtain ⟨hnote2, hphase2⟩ := glideOsc_frame Config.tables (pitchField s) (detune s) (detune s).osc2
    rw [pitchJob_glide _ hmode, glide_eq] at hframe ⊢
    exact ⟨(congrArg (fun n : Note => (n.toNat : Int)) hnote2).trans hnote, hnote1, pitchField_toNat s, rfl, rfl, hphase1,
      hphase2, hframe⟩

/-- Settles O41: none of the three conditions of glide mode holds, and the bypass writes both oscillators afresh. -/
theorem bypassIsTheDirectTableLookup : Obligations.BypassIsTheDirectTableLookup := by
  intro s hps hpo hlfo
  have hmode : glideRequired Config.tables s (pitchField s) = false := by
    rw [Bool.eq_false_iff, ne_eq, glideRequired_iff]
    rintro (⟨hd, ha⟩ | h | h)
    · rcases hlfo with hlfo | hlfo
      · exact hlfo hd
      · omega
    · exact h hps
    · exact h hpo
  refine ⟨_, rfl, ?_⟩
  rw [pitchJob_bypass _ hmode]
  rintro o (rfl | rfl) <;> exact ⟨rfl, rfl, rfl, rfl, rfl, rfl⟩

/-- What changed, so that a retarget is due (R190, R197). -/
theorem retargetTrigger_iff (s : State) (ps : Note) :
    retargetTrigger s ps = true ↔
      ps ≠ s.lastPs ∨ s.osc1.noteIndex ≠ s.osc1.lastNote ∨ s.osc2.noteIndex ≠ s.osc2.lastNote := by
  simp only [retargetTrigger, Bool.or_eq_true, decide_eq_true_eq, or_assoc]

/-- Settles O42: the glide of each oscillator from the registers the detune leaves. -/
theorem glideRetargetsOnChangeThenSteps : Obligations.GlideRetargetsOnChangeThenSteps := by
  intro s hcond
  have hmode := (glideRequired_iff Config.tables s).2 hcond
  have hnote1 := (glideOsc_frame Config.tables (pitchField s) (detune s) (detune s).osc1).1
  have hnote2 := (glideOsc_frame Config.tables (pitchField s) (detune s) (detune s).osc2).1
  have hjob := pitchJob_glide Config.tables hmode
  rw [glide_eq] at hjob
  have hdetuned : (pitchJob Config.tables s).osc2.noteIndex = (detune s).osc2.noteIndex := by rw [hjob]; exact hnote2
  have h1 : (pitchJob Config.tables s).osc1 =
      { glideOsc Config.tables (pitchField s) (detune s) (detune s).osc1 with lastNote := s.osc1.noteIndex } := by
    rw [hjob]
    exact congrArg (fun n => { glideOsc Config.tables (pitchField s) (detune s) (detune s).osc1 with lastNote := n }) hnote1
  have h2 : (pitchJob Config.tables s).osc2 =
      { glideOsc Config.tables (pitchField s) (detune s) (detune s).osc2 with lastNote := (detune s).osc2.noteIndex } := by
    rw [hjob]
    exact congrArg (fun n => { glideOsc Config.tables (pitchField s) (detune s) (detune s).osc2 with lastNote := n }) hnote2
  have hglide (o : OscRegs) : glideOsc Config.tables (pitchField s) (detune s) o =
      if pitchField s ≠ s.lastPs ∨ (detune s).osc1.noteIndex ≠ s.osc1.lastNote ∨
        (detune s).osc2.noteIndex ≠ s.osc2.lastNote
      then glideStepOsc (retargetOsc Config.tables (pitchShift (pitchField s))
        (if (s.value SlotNo.portamento).toNat = 0 then 7 else 5 + (s.value SlotNo.portamento).toNat / 32) o)
      else glideStepOsc o := by
    rw [glideOsc, stepLog2_eq]
    exact if_congr (retargetTrigger_iff _ _) rfl rfl
  rw [hglide] at h1 h2
  refine ⟨pitchJob Config.tables s, rfl, ?_⟩
  dsimp only
  rw [hdetuned]
  exact ⟨h1, h2⟩

/-! ## The invariant -/

/-- The invariant of both oscillators. -/
def BothGlideSafe (s : State) : Prop := GlideSafe s.osc1 ∧ GlideSafe s.osc2

/-- The pitch job keeps it: the detune and the bookkeeping do not touch these registers. -/
theorem BothGlideSafe.pitchJob (c : Tables) {s : State} (h : BothGlideSafe s) : BothGlideSafe (pitchJob c s) := by
  obtain ⟨h1, h2⟩ := h
  have h2' : GlideSafe (detune s).osc2 := { h2 with }
  cases hmode : glideRequired c s (pitchField s) with
  | false =>
    rw [pitchJob_bypass c hmode]
    exact ⟨{ GlideSafe.bypassOsc c s.osc1 with }, { GlideSafe.bypassOsc c (detune s).osc2 with }⟩
  | true =>
    rw [pitchJob_glide c hmode, glide_eq]
    exact ⟨{ h1.glideOsc c (pitchField s) (detune s) with }, { h2'.glideOsc c (pitchField s) (detune s) with }⟩

/-- The glide registers after reset are at rest (R60). -/
theorem GlideSafe.reset : GlideSafe OscRegs.reset where
  countLe := le_rfl
  arrived _ := rfl
  path := .inl (by decide)

/-- Only the pitch job and RESET write the glide registers; AUDIO_TICK writes phases, NOTE_ON a note. -/
theorem bothGlideSafe_kept : KeptByOperations BothGlideSafe where
  begins _ _ h := h
  audioTick s h := by
    obtain ⟨h1, h2⟩ := h
    rw [audioTick_frame]
    exact ⟨{ h1 with }, { h2 with }⟩
  slowTick _ h := h
  clearSlowPending _ h := h
  amplitudeStep s h := by rwa [amplitudeStep_frame]
  filterJob s h := by rwa [filterJob_frame]
  pitchJob _ h := h.pitchJob Config.tables
  lfoJob s h := by rwa [lfoJob_frame]
  advanceRoundRobin _ h := h
  noteOn _ _ _ h := ⟨{ h.1 with }, h.2⟩
  noteOff a s h := by
    unfold noteOff
    split_ifs <;> exact h
  inject p b s h := by rwa [inject_frame]
  knobReading p b s h := by rwa [knobReading_frame]
  reset _ _ := ⟨GlideSafe.reset, GlideSafe.reset⟩
  busReady _ _ h := h

/-- Settles O45: every step keeps what the parts of the operations keep. -/
theorem everyStepKeepsTheGlideInvariant : Obligations.EveryStepKeepsTheGlideInvariant :=
  fun _ _ h1 h2 hstep => bothGlideSafe_kept.step ⟨h1, h2⟩ hstep

end Sys2Proof.Machine
end

section
/-! PROOF. The waveform operations (spec/41_oscillator.md R150 to R169): each writes its owner's sample, and noise and morph their
owner's record. -/

namespace Sys2Proof.Machine

open Sys2Proof.Config (Tables)

/-! ## Operations that write the sample only -/

/-- A waveform that leaves the record writes its owner's sample and nothing else. -/
theorem evalWave_of_record_kept (c : Tables) (w : WaveId) (g : Gen) (s : State)
    (h : (wave c w (s.gen g) (wavePhase s g) (waveNoteRate s g) (waveReload s g)).1 = s.gen g) :
    evalWave c w g s =
      s.setSample g (wave c w (s.gen g) (wavePhase s g) (waveNoteRate s g) (waveReload s g)).2 := by
  rw [evalWave, h, setGen_gen]

theorem exec_wSine (g : Gen) (s : State) :
    exec (.wSine g) s = .next (s.setSample g (sineWave Config.tables (wavePhase s g))) :=
  congrArg Host.Outcome.next (evalWave_of_record_kept Config.tables .sine g s rfl)

theorem exec_wRamp (g : Gen) (s : State) :
    exec (.wRamp g) s = .next (s.setSample g (rampWave Config.tables (wavePhase s g) (waveNoteRate s g))) :=
  congrArg Host.Outcome.next (evalWave_of_record_kept Config.tables .ramp g s rfl)

theorem exec_wTriangle (g : Gen) (s : State) :
    exec (.wTriangle g) s = .next (s.setSample g (triangleWave Config.tables (wavePhase s g) (waveNoteRate s g))) :=
  congrArg Host.Outcome.next (evalWave_of_record_kept Config.tables .triangle g s rfl)

theorem exec_wSquare (g : Gen) (s : State) :
    exec (.wSquare g) s = .next (s.setSample g (squareWave Config.tables (wavePhase s g) (waveNoteRate s g))) :=
  congrArg Host.Outcome.next (evalWave_of_record_kept Config.tables .square g s rfl)

theorem exec_wRawSquare (g : Gen) (s : State) :
    exec (.wRawSquare g) s = .next (s.setSample g (rawSquareWave Config.tables (wavePhase s g))) :=
  congrArg Host.Outcome.next (evalWave_of_record_kept Config.tables .rawSquare g s rfl)

theorem exec_wSyncSquare (g : Gen) (s : State) :
    exec (.wSyncSquare g) s = .next (s.setSample g (syncSquareWave Config.tables (wavePhase s g))) :=
  congrArg Host.Outcome.next (evalWave_of_record_kept Config.tables .syncSquare g s rfl)

/-! ## Phase index -/

/-- The phase index in plain numbers (R151). -/
theorem phaseIndex_eq (ph : Word16) : phaseIndex ph = BitVec.ofNat 8 (ph.toNat / 256) := by
  have hph := ph.isLt
  apply BitVec.eq_of_toNat_eq
  rw [phaseIndex_toNat, BitVec.toNat_ofNat]
  omega

/-- The entry after the last is the first (R152). -/
theorem phaseIndex_succ_eq (ph : Word16) : phaseIndex ph + 1 = BitVec.ofNat 8 ((ph.toNat / 256 + 1) % 256) := by
  have hidx := phaseIndex_toNat ph
  bv_omega

/-- Settles O18: the sample is a floored interpolation by the fraction of 256. -/
theorem sineInterpolatesBetweenAdjacentEntries : Obligations.SineInterpolatesBetweenAdjacentEntries := by
  intro g s
  refine ⟨_, exec_wSine g s, by rw [sample_setSample_same], ?_⟩
  dsimp only
  rw [sample_setSample_same, ← phaseIndex_eq, ← phaseIndex_succ_eq, ← phaseFrac_toNat]
  have hfrac := (phaseFrac (wavePhase s g)).isLt
  have hvalue := byteOf_interpolate (Config.tables.sine (phaseIndex (wavePhase s g)))
    (Config.tables.sine (phaseIndex (wavePhase s g) + 1)) (f := (phaseFrac (wavePhase s g)).toNat) (n := 256)
    (by omega) (by omega) (by omega)
  have hbetween := interpolate_between (Config.tables.sine (phaseIndex (wavePhase s g))).toNat
    (Config.tables.sine (phaseIndex (wavePhase s g) + 1)).toNat (f := (phaseFrac (wavePhase s g)).toNat) (n := 256)
    (by omega) (by omega) (by omega)
  rw [← hvalue] at hbetween
  exact ⟨hvalue, hbetween.1, hbetween.2⟩

/-- Settles O21: two table lookups at the phase index. -/
theorem rawAndSyncSquareReadTheirTables : Obligations.RawAndSyncSquareReadTheirTables := by
  intro g s
  rw [exec_wRawSquare, exec_wSyncSquare, rawSquareWave, syncSquareWave, phaseIndex_eq]
  exact ⟨rfl, rfl⟩

/-! ## Ramp, triangle and square -/

/-- The blend by the note's place in its band, in plain numbers (R153). -/
theorem blend_toNat (T : BitVec 5 → Byte → Byte) (ph : Word16) (n : Note) :
    (blend T ph n).toNat =
      (if n.toNat % 4 = 0 then
        ((T (bandBelow (noteBand n)) (phaseIndex ph)).toNat + (T (noteBand n) (phaseIndex ph)).toNat) / 2
      else if n.toNat % 4 = 1 then
        (3 * (T (noteBand n) (phaseIndex ph)).toNat + (T (bandBelow (noteBand n)) (phaseIndex ph)).toNat) / 4
      else if n.toNat % 4 = 2 then
        (3 * (T (noteBand n) (phaseIndex ph)).toNat + (T (bandAbove (noteBand n)) (phaseIndex ph)).toNat) / 4
      else
        ((T (noteBand n) (phaseIndex ph)).toNat + (T (bandAbove (noteBand n)) (phaseIndex ph)).toNat) / 2) := by
  have hown := (T (noteBand n) (phaseIndex ph)).isLt
  have hlo := (T (bandBelow (noteBand n)) (phaseIndex ph)).isLt
  have hhi := (T (bandAbove (noteBand n)) (phaseIndex ph)).isLt
  have hpos := (bands_toNat n).2.2.2
  have hlt : n.toNat % 4 < 4 := Nat.mod_lt _ (by decide)
  have hbyte {v : Int} {k : Nat} (hv : v = k) (hk : k ≤ 255) : (byteOf v).toNat = k := hv ▸ byteOf_natCast hk
  unfold blend
  dsimp only
  rw [hpos]
  generalize n.toNat % 4 = place at hlt ⊢
  interval_cases place
  · rw [if_pos rfl]
    exact hbyte (by rw [floorShift_one]; omega) (by omega)
  · rw [if_neg (by decide), if_pos rfl]
    exact hbyte (by rw [floorShift_two]; omega) (by omega)
  · rw [if_neg (by decide), if_neg (by decide), if_pos rfl]
    exact hbyte (by rw [floorShift_two]; omega) (by omega)
  · rw [if_neg (by decide), if_neg (by decide), if_neg (by decide)]
    exact hbyte (by rw [floorShift_one]; omega) (by omega)

/-- The band and its neighbours as numbers (R151, R153). -/
theorem bands_eq (n : Note) :
    noteBand n = BitVec.ofNat 5 (n.toNat / 4) ∧ bandBelow (noteBand n) = BitVec.ofNat 5 (n.toNat / 4 - 1) ∧
      bandAbove (noteBand n) = BitVec.ofNat 5 (min (n.toNat / 4 + 1) 31) := by
  obtain ⟨hown, hlo, hhi, -⟩ := bands_toNat n
  have hn := n.isLt
  refine ⟨BitVec.eq_of_toNat_eq ?_, BitVec.eq_of_toNat_eq ?_, BitVec.eq_of_toNat_eq ?_⟩
  · rw [hown, BitVec.toNat_ofNat]; omega
  · rw [hlo, BitVec.toNat_ofNat]; omega
  · rw [hhi, BitVec.toNat_ofNat]; omega

/-- Settles O19: both are the blend, each of its own bank. -/
theorem rampAndTriangleBlendNeighbourBands : Obligations.RampAndTriangleBlendNeighbourBands := by
  intro g s
  obtain ⟨hown, hlo, hhi⟩ := bands_eq (waveNoteRate s g)
  refine ⟨_, _, exec_wRamp g s, exec_wTriangle g s, by rw [sample_setSample_same], by rw [sample_setSample_same], ?_⟩
  dsimp only
  rw [sample_setSample_same, sample_setSample_same, ← phaseIndex_eq, ← hown, ← hlo, ← hhi]
  rintro T out (⟨rfl, rfl⟩ | ⟨rfl, rfl⟩)
  · exact blend_toNat _ _ _
  · exact blend_toNat _ _ _

/-- Settles O20: the second ramp is half a cycle on, and the recentred difference saturates. -/
theorem squareIsTheSaturatedRampDifference : Obligations.SquareIsTheSaturatedRampDifference := by
  intro g s
  have hhalf : BitVec.ofNat 16 ((wavePhase s g).toNat + 0x8000) = wavePhase s g + Config.pulseWidth := by
    apply BitVec.eq_of_toNat_eq
    rw [BitVec.toNat_ofNat, BitVec.toNat_add]
    rfl
  refine ⟨_, exec_wSquare g s, by rw [sample_setSample_same], ?_⟩
  rw [sample_setSample_same, hhalf, squareWave]
  exact sat8_toNat _

/-! ## Noise -/

/-- A bit of the noise register as a number. -/
theorem getLsbD_eq_decide (r : Word16) (k : Nat) : r.getLsbD k = decide (r.toNat / 2 ^ k % 2 = 1) := by
  rw [BitVec.getLsbD, Nat.testBit_eq_decide_div_mod_eq]

/-- Feedback is addition modulo 2. -/
theorem xor_odd (a b : Nat) : Bool.xor (decide (a % 2 = 1)) (decide (b % 2 = 1)) = decide ((a + b) % 2 = 1) := by
  rcases Nat.mod_two_eq_zero_or_one a with ha | ha <;> rcases Nat.mod_two_eq_zero_or_one b with hb | hb <;>
    simp [Nat.add_mod, ha, hb]

/-- The noise register's step in plain numbers: the parity of the four taps enters at bit 0 (R158). -/
theorem lfsrStep_toNat (r : Word16) :
    (lfsrStep r).toNat =
      (2 * r.toNat + (r.toNat / 32768 + r.toNat / 8192 + r.toNat / 4096 + r.toNat / 1024) % 2) % 65536 := by
  have hfb : Bool.xor (Bool.xor (r.getLsbD 15) (r.getLsbD 13)) (Bool.xor (r.getLsbD 12) (r.getLsbD 10)) =
      decide ((r.toNat / 32768 + r.toNat / 8192 + r.toNat / 4096 + r.toNat / 1024) % 2 = 1) := by
    rw [getLsbD_eq_decide, getLsbD_eq_decide, getLsbD_eq_decide, getLsbD_eq_decide, xor_odd, xor_odd, xor_odd, ← add_assoc]
    rfl
  have hshift : (r <<< 1).toNat = (r.toNat % 32768) <<< 1 := by
    rw [BitVec.toNat_shiftLeft, Nat.shiftLeft_eq, Nat.shiftLeft_eq]
    omega
  have hor (b : Nat) (hb : b < 2) : (r.toNat % 32768) <<< 1 ||| b = (r.toNat % 32768) * 2 + b := by
    rw [← Nat.shiftLeft_add_eq_or_of_lt (i := 1) hb, Nat.shiftLeft_eq, pow_one]
  unfold lfsrStep
  dsimp only
  rw [hfb, BitVec.toNat_or, hshift]
  split_ifs with hodd
  · have hodd' := of_decide_eq_true hodd
    refine (hor 1 (by decide)).trans ?_
    omega
  · have heven := of_decide_eq_false (Bool.eq_false_iff.2 hodd)
    refine (hor 0 (by decide)).trans ?_
    omega

/-- The noise register never becomes 0: only bit 15 alone is shifted out whole, and it is a tap (R158). -/
theorem lfsrStep_ne_zero {r : Word16} (h : r ≠ 0) : lfsrStep r ≠ 0 := by
  have hr : r.toNat ≠ 0 := fun h0 => h (BitVec.eq_of_toNat_eq h0)
  have hlt := r.isLt
  intro h0
  have hstep : (lfsrStep r).toNat = 0 := congrArg BitVec.toNat h0
  rw [lfsrStep_toNat] at hstep
  omega

/-- Settles O22: the owner's record takes the stepped register, whose low byte is the sample. -/
theorem noiseStepsItsOwnersRegister : Obligations.NoiseStepsItsOwnersRegister := by
  intro g s
  have hresult := evalWave_result Config.tables .noise g s
  obtain ⟨hrec, hsample⟩ := Prod.mk.inj hresult
  refine ⟨_, rfl, ?_⟩
  dsimp only
  refine ⟨?_, ?_, ?_⟩
  · rw [hrec]; exact lfsrStep_toNat _
  · rw [hrec, hsample]
    exact (BitVec.extractLsb'_toNat _ _ _).trans (by rw [Nat.shiftRight_zero])
  · conv_lhs => rw [evalWave_frame]
    rw [hrec, hsample]
    rfl

/-! ## Morph -/

/-- The morph step in plain numbers (R159). -/
theorem morphStep_eq (old : GenRec) (reload : Byte) :
    morphStep old reload =
      ⟨BitVec.ofNat 8 (if old.morphTimer.toNat = 0 then (old.morphIndex.toNat + 1) % 256 else old.morphIndex.toNat),
        BitVec.ofNat 8 (if old.morphTimer.toNat = 0 then reload.toNat else old.morphTimer.toNat - 1), old.lfsr⟩ := by
  have hzero : old.morphTimer = 0 ↔ old.morphTimer.toNat = 0 := BitVec.toNat_inj.symm
  unfold morphStep
  by_cases ht : old.morphTimer.toNat = 0
  · have hindex : old.morphIndex + 1 = BitVec.ofNat 8 ((old.morphIndex.toNat + 1) % 256) := by bv_omega
    rw [if_pos (hzero.2 ht), if_pos ht, if_pos ht, hindex, BitVec.ofNat_toNat, BitVec.setWidth_eq]
  · have htimer : old.morphTimer - 1 = BitVec.ofNat 8 (old.morphTimer.toNat - 1) := by bv_omega
    rw [if_neg (mt hzero.1 ht), if_neg ht, if_neg ht, htimer, BitVec.ofNat_toNat, BitVec.setWidth_eq]

/-- The reload slot by owner (R159). -/
theorem waveReload_eq (s : State) (g : Gen) :
    waveReload s g = if g = .lfo then s.value SlotNo.lfoMorphRate else s.value SlotNo.morphRate := by
  cases g <;> rfl

/-- Settles O23: each of the nine is the evaluation of its own recipe, after the morph step. -/
theorem morphOperationsStepThenEvaluateTheirRecipe : Obligations.MorphOperationsStepThenEvaluateTheirRecipe := by
  intro k op g s hmem
  have hexec : exec (op g) s = .next (evalWave Config.tables (.morph k) g s) := by
    simp only [List.mem_cons, List.not_mem_nil, or_false, Prod.mk.injEq] at hmem
    rcases hmem with ⟨rfl, rfl⟩ | ⟨rfl, rfl⟩ | ⟨rfl, rfl⟩ | ⟨rfl, rfl⟩ | ⟨rfl, rfl⟩ | ⟨rfl, rfl⟩ | ⟨rfl, rfl⟩ |
      ⟨rfl, rfl⟩ | ⟨rfl, rfl⟩ <;> rfl
  dsimp only
  rw [hexec, evalWave, wave, waveReload_eq, morphStep_eq]

/-- No waveform makes a noise register 0: only noise writes it. -/
theorem wave_lfsr_ne_zero (c : Tables) (w : WaveId) {g : GenRec} (ph : Word16) (n : Note) (reload : Byte) (h : g.lfsr ≠ 0) :
    (wave c w g ph n reload).1.lfsr ≠ 0 := by
  cases w with
  | noise => exact lfsrStep_ne_zero h
  | morph k =>
    show (morphStep g reload).lfsr ≠ 0
    rwa [morphStep_eq]
  | _ => exact h

end Sys2Proof.Machine
end

section
/-! PROOF. AUDIO_TICK (spec/40_scheduler.md R131, R136 to R140): the mixer, the smoothing filter, the whole effect on the state, and
what the sample depends on. -/

namespace Sys2Proof.Machine

open Sys2Proof.Config (Tables)

/-! ## Mixer and smoothing -/

/-- The cross-fade is a convex sum: it never saturates (R137). -/
theorem mixSamples_toNat (a b m : Byte) :
    (mixSamples a b m).toNat = (a.toNat * (256 - m.toNat) + b.toNat * m.toNat) / 256 := by
  have hm := m.isLt
  have ha : a.toNat * (256 - m.toNat) ≤ 255 * (256 - m.toNat) := Nat.mul_le_mul_right _ (Nat.le_of_lt_succ a.isLt)
  have hb : b.toNat * m.toNat ≤ 255 * m.toNat := Nat.mul_le_mul_right _ (Nat.le_of_lt_succ b.isLt)
  rw [mixSamples, floorShift_eight]
  exact byteOf_natCast (n := (a.toNat * (256 - m.toNat) + b.toNat * m.toNat) / 256) (by omega)

/-- Settles O13: the formula, and its value at both ends. -/
theorem mixerCrossFadesWithoutSaturation : Obligations.MixerCrossFadesWithoutSaturation := by
  intro a b m
  refine ⟨mixSamples_toNat a b m, ?_, ?_⟩
  · rintro rfl
    apply BitVec.eq_of_toNat_eq
    rw [mixSamples_toNat]
    show (a.toNat * 256 + b.toNat * 0) / 256 = a.toNat
    omega
  · rintro rfl
    have ha := a.isLt
    have hb := b.isLt
    rw [mixSamples_toNat]
    show (a.toNat * 1 + b.toNat * 255) / 256 = _
    split_ifs <;> omega

/-- The smoothing filter moves a floored quarter of the way (R138). -/
theorem smooth_toNat (lp m : Byte) : ((smooth lp m).toNat : Int) = lp.toNat + ((m.toNat : Int) - lp.toNat) / 4 := by
  have hlp := lp.isLt
  have hm := m.isLt
  rw [smooth, floorShift_two]
  exact byteOf_toNat (by omega) (by omega)

/-- Settles O14: consequences of the floored quarter. -/
theorem smoothingMovesTowardTheMix : Obligations.SmoothingMovesTowardTheMix := by
  intro lp m
  have hvalue := smooth_toNat lp m
  exact ⟨hvalue, by omega, by omega, by omega, fun _ => BitVec.eq_of_toNat_eq (by omega)⟩

/-! ## The waveforms of the tick -/

/-- The waveform id depends on the store alone. -/
theorem waveIdField_congr {s t : State} (h : s.store = t.store) (g : Gen) : waveIdField s g = waveIdField t g := by
  rw [waveIdField, waveIdField, value_congr h]

/-- The waveform id is bits 7:4 of the owner's slot (R106). -/
theorem waveIdField_eq (s : State) (g : Gen) :
    waveIdField s g = BitVec.ofNat 4 ((s.value (waveshapeSlot g)).toNat / 16) := by
  have hv := (s.value (waveshapeSlot g)).isLt
  apply BitVec.eq_of_toNat_eq
  simp only [waveIdField, BitVec.extractLsb'_toNat, Nat.shiftRight_eq_div_pow, BitVec.toNat_ofNat]

/-- The state both oscillators are evaluated in: the sync taken and both phases advanced from 0 or from where they were. -/
theorem advancePhases_audioSyncTake (s : State) :
    advancePhases (audioSyncTake s) = { s with
      sync.oscillator := false
      osc1.phase := (if s.sync.oscillator then 0 else s.osc1.phase) + s.osc1.noteFrequency
      osc2.phase := (if s.sync.oscillator then 0 else s.osc2.phase) + s.osc2.noteFrequency } := by
  unfold audioSyncTake
  by_cases h : s.sync.oscillator = true
  · simp only [if_pos h]
    rfl
  · simp only [if_neg h]
    have hclear : s.sync.oscillator = false := by simpa using h
    rw [← hclear]
    rfl

/-- AUDIO_TICK while a note sounds. -/
theorem audioTick_sounding (c : Tables) {s : State} (h : s.noteOn = true) :
    audioTick c s = audioMix (oscillate c .osc2 (oscillate c .osc1 (advancePhases (audioSyncTake s)))) :=
  if_pos h

/-- AUDIO_TICK in silence. -/
theorem audioTick_silent (c : Tables) {s : State} (h : s.noteOn = false) : audioTick c s = audioSilence s :=
  if_neg (by simp [h])

/-- An oscillator's evaluation leaves the store. -/
theorem oscillate_store (c : Tables) (g : Gen) (s : State) : (oscillate c g s).store = s.store := by
  rw [oscillate, evalWave_frame]
  simp

/-- The operation an oscillator's id decodes to is its evaluation, in any state that holds the id's slot. -/
theorem exec_selected {s t : State} (h : t.store = s.store) (g : Gen) :
    exec (waveInstr g (selectWave g (waveIdField s g))) t = .next (oscillate Config.tables g t) := by
  rw [exec_waveInstr, ← waveIdField_congr h]
  rfl

/-- Settles O10: exec of the operation an id decodes to is the oscillator's evaluation; the parts before it leave the slots. -/
theorem audioTickRunsTheSelectedWaveformOperations : Obligations.AudioTickRunsTheSelectedWaveformOperations := by
  intro s hon
  have hstore : (advancePhases (audioSyncTake s)).store = s.store := by rw [advancePhases_audioSyncTake]
  exact ⟨_, _, _, _, rfl, exec_selected hstore .osc1, rfl, exec_selected ((oscillate_store _ _ _).trans hstore) .osc2,
    congrArg Host.Outcome.next (audioTick_sounding Config.tables hon)⟩

/-- An oscillator's phase after the tick (R131, R136). -/
def tickPhase (s : State) (o : OscRegs) : Word16 := (if s.sync.oscillator then 0 else o.phase) + o.noteFrequency

/-- What `Wave` answers an oscillator in the tick: its record after, and its sample (R131). -/
def tickWave (c : Tables) (s : State) (g : Gen) (o : OscRegs) : GenRec × Byte :=
  wave c (selectWave g (waveIdField s g)) (s.gen g) (tickPhase s o) o.noteIndex (s.value SlotNo.morphRate)

/-- The sample the tick puts out (R131, R137, R138). -/
def tickOut (c : Tables) (s : State) : Byte :=
  smooth s.lpOut
    (mixSamples (tickWave c s .osc1 s.osc1).2 (tickWave c s .osc2 s.osc2).2 (s.value SlotNo.oscMix))

/-- The whole effect of AUDIO_TICK while a note sounds. -/
theorem audioTick_sounding_eq (c : Tables) {s : State} (h : s.noteOn = true) :
    audioTick c s = { s with
      sync.oscillator := false
      osc1.phase := tickPhase s s.osc1
      osc2.phase := tickPhase s s.osc2
      gen1 := (tickWave c s .osc1 s.osc1).1
      gen2 := (tickWave c s .osc2 s.osc2).1
      samples.osc1 := (tickWave c s .osc1 s.osc1).2
      samples.osc2 := (tickWave c s .osc2 s.osc2).2
      lpOut := tickOut c s
      audioOut := tickOut c s } := by
  rw [audioTick_sounding c h, advancePhases_audioSyncTake]
  rfl

/-- A phase advances modulo 2^16 (R136). -/
theorem tickPhase_toNat (s : State) (o : OscRegs) :
    (tickPhase s o).toNat = ((if s.sync.oscillator then 0 else o.phase.toNat) + o.noteFrequency.toNat) % 65536 := by
  rw [tickPhase, BitVec.toNat_add]
  cases s.sync.oscillator <;> rfl

/-- An oscillator evaluates the waveform of bits 7:4 of its slot (R106). -/
theorem tickWave_eq (c : Tables) (s : State) {g : Gen} (hg : g ≠ .lfo) (o : OscRegs) :
    tickWave c s g o = wave c (decodeWaveId (BitVec.ofNat 4 ((s.value (waveshapeSlot g)).toNat / 16))) (s.gen g)
      (tickPhase s o) o.noteIndex (s.value SlotNo.morphRate) := by
  rw [tickWave, selectWave_of_ne_lfo hg, waveIdField_eq]

/-- The sample put out, in plain numbers (R137, R138). -/
theorem tickOut_toNat (c : Tables) (s : State) :
    ((tickOut c s).toNat : Int) = s.lpOut.toNat +
      ((((tickWave c s .osc1 s.osc1).2.toNat * (256 - (s.value SlotNo.oscMix).toNat) +
        (tickWave c s .osc2 s.osc2).2.toNat * (s.value SlotNo.oscMix).toNat) / 256 : Int) - s.lpOut.toNat) / 4 := by
  have hmix := (s.value SlotNo.oscMix).isLt
  rw [tickOut, smooth_toNat, mixSamples_toNat]
  push_cast [Nat.cast_sub hmix.le]
  rfl

/-- Settles O12: the whole effect, field by field. -/
theorem audioTickProducesOneSample : Obligations.AudioTickProducesOneSample := by
  intro s
  refine ⟨audioTick Config.tables s, rfl, ?_⟩
  by_cases hon : s.noteOn = true
  · rw [if_pos hon]
    have hout := tickOut_toNat Config.tables s
    have hw1 := tickWave_eq Config.tables s (g := .osc1) (by decide) s.osc1
    have hw2 := tickWave_eq Config.tables s (g := .osc2) (by decide) s.osc2
    have heffect := audioTick_sounding_eq Config.tables hon
    rw [hw1, hw2] at hout heffect
    rw [heffect]
    exact ⟨tickPhase_toNat s s.osc1, tickPhase_toNat s s.osc2, hout, rfl⟩
  · rw [if_neg hon]
    exact audioTick_silent _ (by simpa using hon)

/-! ## What the sample depends on -/

/-- Two states that agree on what AUDIO_TICK reads give an oscillator the same phase. -/
theorem SameAudioInputs.tickPhase {s t : State} (h : SameAudioInputs s t) :
    tickPhase s s.osc1 = tickPhase t t.osc1 ∧ tickPhase s s.osc2 = tickPhase t t.osc2 := by
  simp only [Machine.tickPhase, h.sync, h.phase1, h.phase2, h.freq1, h.freq2, and_self]

/-- And the same waveform result. -/
theorem SameAudioInputs.tickWave (c : Tables) {s t : State} (h : SameAudioInputs s t) :
    tickWave c s .osc1 s.osc1 = tickWave c t .osc1 t.osc1 ∧ tickWave c s .osc2 s.osc2 = tickWave c t .osc2 t.osc2 := by
  simp only [Machine.tickWave, waveIdField, waveshapeSlot, State.gen, h.tickPhase.1, h.tickPhase.2, h.wave1, h.wave2, h.note1,
    h.note2, h.gen1, h.gen2, h.morphRate, and_self]

/-- And the same sample. -/
theorem SameAudioInputs.tickOut (c : Tables) {s t : State} (h : SameAudioInputs s t) : tickOut c s = tickOut c t := by
  rw [Machine.tickOut, Machine.tickOut, (h.tickWave c).1, (h.tickWave c).2, h.lpOut, h.mix]

/-- Settles O60: sounding, every register the tick writes is a function of what the two states agree on; silent, it is a constant. -/
theorem audioOutputDependsOnlyOnItsInputs : Obligations.AudioOutputDependsOnlyOnItsInputs := by
  rintro s t _ _ h ⟨⟩ ⟨⟩
  cases hon : s.noteOn with
  | true =>
    obtain ⟨hphase1, hphase2⟩ := h.tickPhase
    obtain ⟨hwave1, hwave2⟩ := h.tickWave Config.tables
    have hout := h.tickOut Config.tables
    rw [audioTick_sounding_eq _ hon, audioTick_sounding_eq _ (h.noteOn ▸ hon)]
    exact ⟨hout, { h with
      sync := rfl
      phase1 := hphase1
      phase2 := hphase2
      gen1 := congrArg Prod.fst hwave1
      gen2 := congrArg Prod.fst hwave2
      lpOut := hout }⟩
  | false =>
    rw [audioTick_silent _ hon, audioTick_silent _ (h.noteOn ▸ hon)]
    exact ⟨rfl, { h with phase1 := rfl, phase2 := rfl, lpOut := rfl }⟩

end Sys2Proof.Machine
end

section
/-! PROOF. The LFO job (spec/45_lfo.md R260 to R269): the phase, the hand-back of the slot left, and the write of the destination. -/

namespace Sys2Proof.Machine

open Sys2Proof.Config (Tables)

/-! ## The governing value -/

/-- The governing value by the tag (R264). -/
theorem gov_eq (s : State) (p : Slot) :
    gov s p = if s.source p = .external then s.override p else s.rawReading p := by
  unfold gov
  cases s.source p <;> rfl

/-- It does not depend on effective values. -/
theorem gov_setValue (s : State) (p q : Slot) (v : Byte) : gov (s.setValue q v) p = gov s p := by
  rw [gov_eq, gov_eq, source_setValue, override_setValue, rawReading_setValue]

/-- Settles O48, by the tag. -/
theorem governingValueFollowsTheSourceTag : Obligations.GoverningValueFollowsTheSourceTag :=
  fun s p => ⟨gov_eq s p, gov_setValue s p⟩

/-! ## The state the destination is written in -/

/-- The phase step leaves the store. -/
theorem lfoPhaseStep_store (c : Tables) (s : State) : (lfoPhaseStep c s).store = s.store := by rw [lfoPhaseStep_frame]

/-- The state after the phase step and the hand-back, in which the destination is written (R260). -/
def lfoReady (c : Tables) (s : State) : State := lfoHandBack (dest c s) (lfoPhaseStep c s)

/-- The job is the write of the destination in that state. -/
theorem lfoJob_eq (c : Tables) (s : State) : lfoJob c s = lfoApply c (dest c s) (lfoReady c s) := by
  rw [lfoJob, dest_congr c (lfoPhaseStep_store c s), lfoReady]

/-- The effective values as they stand after the hand-back (R263). -/
theorem lfoReady_value (c : Tables) (s : State) (p : Slot) :
    (lfoReady c s).value p =
      if dest c s ≠ s.lfo.lastDest ∧ p = s.lfo.lastDest then gov s p else s.value p := by
  have hlast : (lfoPhaseStep c s).lfo.lastDest = s.lfo.lastDest := by rw [lfoPhaseStep_frame]
  have hvalue := value_congr (lfoPhaseStep_store c s) p
  rw [lfoReady, lfoHandBack, hlast, gov_congr (lfoPhaseStep_store c s)]
  by_cases hd : dest c s = s.lfo.lastDest
  · rw [if_neg (not_not_intro hd), if_neg (fun h => h.1 hd), hvalue]
  · rw [if_pos hd]
    refine (value_setValue (lfoPhaseStep c s) s.lfo.lastDest p _).trans ?_
    by_cases hp : p = s.lfo.lastDest
    · rw [if_pos hp, if_pos ⟨hd, hp⟩, hp]
    · rw [if_neg hp, if_neg (fun h => hp h.2), hvalue]

theorem lfoReady_value_funext (c : Tables) (s : State) :
    (fun p : Slot => if dest c s ≠ s.lfo.lastDest ∧ p = s.lfo.lastDest then gov s p else s.value p) = (lfoReady c s).value :=
  funext fun p => (lfoReady_value c s p).symm

/-- The governing values, the generator record and the phase in that state. -/
theorem lfoReady_gov (c : Tables) (s : State) (p : Slot) : gov (lfoReady c s) p = gov s p := by
  rw [lfoReady, lfoHandBack_frame, ← gov_congr (lfoPhaseStep_store c s)]
  rfl

theorem lfoReady_genLfo (c : Tables) (s : State) : (lfoReady c s).genLfo = s.genLfo := by
  rw [lfoReady, lfoHandBack_frame, lfoPhaseStep_frame]

theorem lfoReady_lfo (c : Tables) (s : State) : (lfoReady c s).lfo = ⟨(lfoPhaseStep c s).lfo.phase, dest c s⟩ := by
  rw [lfoReady, lfoHandBack_frame]

/-- The write of the destination leaves the LFO's own registers, so the job ends with those of that state. -/
theorem lfoJob_lfo (c : Tables) (s : State) : (lfoJob c s).lfo = ⟨(lfoPhaseStep c s).lfo.phase, dest c s⟩ := by
  rw [lfoJob_eq, lfoApply_frame, ← lfoReady_lfo]

/-! ## The write of the destination -/

/-- With the amount at most 1 (R266). -/
theorem lfoApply_bypass (c : Tables) (d : Slot) {s : State} (h : (s.value SlotNo.lfoAmount).toNat ≤ 1) :
    lfoApply c d s = s.setValue d (lfoBypassValue d (gov s d)) :=
  if_pos h

/-- Above it (R267): the LFO's waveform is evaluated, and its sample modulates. -/
theorem lfoApply_modulated (c : Tables) (d : Slot) {s : State} (h : ¬ (s.value SlotNo.lfoAmount).toNat ≤ 1) :
    lfoApply c d s =
      (evalWave c (selectWave .lfo (waveIdField s .lfo)) .lfo s).setValue d
        (lfoModulated (gov s d) ((evalWave c (selectWave .lfo (waveIdField s .lfo)) .lfo s).sample .lfo)
          (s.value SlotNo.lfoAmount)) :=
  if_neg h

/-- An evaluation leaves every slot. -/
theorem evalWave_store (c : Tables) (w : WaveId) (g : Gen) (s : State) : (evalWave c w g s).store = s.store := by
  rw [evalWave_frame]
  simp

/-- Either way no other slot is written. -/
theorem lfoApply_value_of_ne (c : Tables) {d p : Slot} (s : State) (h : p ≠ d) : (lfoApply c d s).value p = s.value p := by
  by_cases ha : (s.value SlotNo.lfoAmount).toNat ≤ 1
  · rw [lfoApply_bypass c d ha, value_setValue, if_neg h]
  · rw [lfoApply_modulated c d ha, value_setValue, if_neg h, value_congr (evalWave_store _ _ _ _)]

/-- The modulated value in plain numbers (R267). -/
theorem lfoModulated_toNat (init smp amt : Byte) :
    ((lfoModulated init smp amt).toNat : Int) =
      max 0 (min 255 ((init.toNat : Int) + (((smp.toNat : Int) - 128) * amt.toNat) / 128)) := by
  rw [lfoModulated, sat8_toNat, floorShift_seven]

/-- An evaluation for the LFO is `Wave` with its own record, phase and reload slot, at note-rate 0 (R172). -/
theorem evalWave_lfo (c : Tables) (w : WaveId) (s : State) :
    (evalWave c w .lfo s).genLfo = (wave c w s.genLfo s.lfo.phase 0 (s.value SlotNo.lfoMorphRate)).1 ∧
      (evalWave c w .lfo s).sample .lfo = (wave c w s.genLfo s.lfo.phase 0 (s.value SlotNo.lfoMorphRate)).2 :=
  ⟨rfl, rfl⟩

/-- The LFO's waveform by number: its ids 4 and 5 evaluate id 3 (R107). -/
theorem selectWave_lfo_eq (id : BitVec 4) :
    selectWave .lfo id = decodeWaveId (BitVec.ofNat 4 (if id.toNat = 4 ∨ id.toNat = 5 then 3 else id.toNat)) := by
  have e4 : id = 4 ↔ id.toNat = 4 := BitVec.toNat_inj.symm
  have e5 : id = 5 ↔ id.toNat = 5 := BitVec.toNat_inj.symm
  simp only [selectWave, e4, e5, true_and]
  split_ifs
  · rfl
  · rw [BitVec.ofNat_toNat, BitVec.setWidth_eq]

/-! ## The obligations -/

/-- Settles O47: the sync flag and the record by the frame, the phase by the two cases of the phase step. -/
theorem lfoPhaseResetsOnEnabledSyncOrAdvances : Obligations.LfoPhaseResetsOnEnabledSyncOrAdvances := by
  intro s
  have hlfo := lfoJob_lfo Config.tables s
  have hfield : lfoRateField s = BitVec.ofNat 5 ((s.value SlotNo.lfoRate).toNat / 8) := by
    rw [← lfoRateField_toNat, BitVec.ofNat_toNat, BitVec.setWidth_eq]
  refine ⟨lfoJob Config.tables s, rfl, by rw [lfoJob_frame], by rw [hlfo], ?_⟩
  rw [hlfo]
  have hcond : (s.sync.lfo && lfoSyncEnable s) = true ↔ s.sync.lfo = true ∧ 128 ≤ (s.value SlotNo.lfoSync).toNat := by
    rw [Bool.and_eq_true, lfoSyncEnable_eq, decide_eq_true_iff]
  by_cases hreset : s.sync.lfo = true ∧ 128 ≤ (s.value SlotNo.lfoSync).toNat
  · rw [if_pos hreset, lfoPhaseStep, if_pos (hcond.2 hreset)]
    rfl
  · rw [if_neg hreset, lfoPhaseStep, if_neg (mt hcond.1 hreset), hfield]
    exact BitVec.toNat_add _ _

/-- Settles O49: the bypass branch in the state after the hand-back. -/
theorem lfoBypassDrivesTheDestinationFromItsSource : Obligations.LfoBypassDrivesTheDestinationFromItsSource := by
  intro s d v hamount
  have hv : v = (lfoReady Config.tables s).value := lfoReady_value_funext Config.tables s
  rw [hv] at hamount
  refine ⟨lfoJob Config.tables s, rfl, ?_⟩
  rw [lfoJob_eq, lfoApply_bypass _ _ hamount, value_setValue, if_pos rfl, lfoBypassValue, lfoReady_gov]
  exact ⟨rfl, lfoReady_genLfo _ _⟩

/-- Settles O50: the modulated branch in the state after the hand-back; the evaluation is `Wave`'s with the LFO's own operands. -/
theorem lfoModulatesTheDestination : Obligations.LfoModulatesTheDestination := by
  intro s d v hamount
  have hv : v = (lfoReady Config.tables s).value := lfoReady_value_funext Config.tables s
  rw [hv] at hamount ⊢
  refine ⟨lfoJob Config.tables s, rfl, ?_⟩
  have hid : (waveIdField (lfoReady Config.tables s) .lfo).toNat =
      ((lfoReady Config.tables s).value SlotNo.lfoWaveshape).toNat / 16 := selectorCodesDecodeByNumber.1 _ .lfo
  have hphase : (lfoJob Config.tables s).lfo.phase = (lfoReady Config.tables s).lfo.phase := by rw [lfoJob_lfo, lfoReady_lfo]
  obtain ⟨hrec, hsample⟩ := evalWave_lfo Config.tables
    (selectWave .lfo (waveIdField (lfoReady Config.tables s) .lfo)) (lfoReady Config.tables s)
  dsimp only
  rw [hphase, ← hid, ← selectWave_lfo_eq, ← lfoReady_genLfo Config.tables s, ← lfoReady_gov Config.tables s, lfoJob_eq,
    lfoApply_modulated _ _ (by omega), value_setValue, if_pos rfl, lfoModulated_toNat, ← hsample, ← hrec]
  exact ⟨rfl, rfl⟩

/-- Settles O51: the slot left is written by the hand-back only, and the frame of the job says the rest. -/
theorem lfoWritesOnlyItsSlotsAndRegisters : Obligations.LfoWritesOnlyItsSlotsAndRegisters := by
  intro s
  have hother (p : Slot) (hp : p ≠ dest Config.tables s) :
      (lfoJob Config.tables s).value p = (lfoReady Config.tables s).value p := by
    rw [lfoJob_eq, lfoApply_value_of_ne _ _ hp]
  have hframe := lfoJob_frame Config.tables s
  have hstore : (lfoJob Config.tables s).store = { s.store with value := (lfoJob Config.tables s).store.value } := by
    rw [hframe]
  refine ⟨lfoJob Config.tables s, rfl, fun hd => ?_, fun p hp hlast => ?_, hstore, ?_⟩
  · rw [hother _ hd.symm, lfoReady_value, if_pos ⟨hd, rfl⟩]
  · rw [hother _ hp, lfoReady_value, if_neg (fun h => hlast h.2)]
  · rwa [← hstore] at hframe

end Sys2Proof.Machine
end

section
/-! PROOF. The host events (spec/46_host_events.md R283 to R287), the reset state, and the codes that stay legal (R24, R42, R158). -/

namespace Sys2Proof.Machine

open Sys2Proof.Config (Tables)

/-! ## Operands -/

theorem noteOperand_toNat (a : Byte) : (noteOperand a).toNat = min a.toNat 127 := by
  rw [noteOperand_eq_ofNat, BitVec.toNat_ofNat]
  omega

theorem slotOperand_val (a : Byte) : (slotOperand a).val = min a.toNat 31 := by
  rw [slotOperand, clampSlotOperand_toNat, Fin.val_ofNat]
  omega

/-- Controllers 0, 1 and 2 address LFO_AMOUNT (R284). -/
theorem controllerSlot_val (a : Byte) :
    (controllerSlot a).val = if min a.toNat 31 ≤ 2 then 0 else min a.toNat 31 := by
  rw [controllerSlot, clampSlotOperand_toNat]
  split_ifs
  · rfl
  · exact slotOperand_val a

/-- Settles O53: the clamped note is compared as a number. -/
theorem noteOffReleasesOnlyTheSoundingNote : Obligations.NoteOffReleasesOnlyTheSoundingNote := by
  intro a s
  have hnote : noteOperand a = s.osc1.noteIndex ↔ min a.toNat 127 = s.osc1.noteIndex.toNat := by
    rw [← noteOperand_toNat, BitVec.toNat_inj]
  show Host.Outcome.next (noteOff a s) = _
  simp only [noteOff, hnote]

/-! ## Injected values -/

/-- The value is written unless the slot was the LFO's destination before; all else holds. -/
theorem applyUnlessDest_value (c : Tables) (p : Slot) (b : Byte) (before s : State) (q : Slot) :
    (applyUnlessDest c p b before s).value q = if q = p ∧ p ≠ dest c before then b else s.value q := by
  unfold applyUnlessDest
  split_ifs with hd hq hq
  · rw [value_setValue, if_pos hq.1]
  · rw [value_setValue, if_neg fun h => hq ⟨h, hd⟩]
  · exact absurd hq.2 hd
  · rfl

theorem applyUnlessDest_store (c : Tables) (p : Slot) (b : Byte) (before s : State) :
    (applyUnlessDest c p b before s).store =
      { s.store with value := (applyUnlessDest c p b before s).store.value } := by
  unfold applyUnlessDest
  split_ifs <;> rfl

/-- What an injected value leaves in the store (R284, R285). -/
theorem inject_store (c : Tables) (p : Slot) (b : Byte) (s : State) :
    (inject c p b s).store.rawReading = s.store.rawReading ∧
      ∀ q, (inject c p b s).override q = (if q = p then b else s.override q) ∧
        (inject c p b s).source q = (if q = p then .external else s.source q) ∧
        (inject c p b s).value q = (if q = p ∧ p ≠ dest c s then b else s.value q) := by
  have hstore := applyUnlessDest_store c p b s ((s.setOverride p b).setSource p .external)
  refine ⟨(congrArg Store.rawReading hstore).trans rfl, fun q => ⟨?_, ?_, applyUnlessDest_value _ _ _ _ _ _⟩⟩
  · exact (congrArg (fun m : Store => m.override[q]) hstore).trans (override_setOverride s p q b)
  · exact (congrArg (fun m : Store => m.source[q]) hstore).trans (source_setSource (s.setOverride p b) p q .external)

/-- What a knob reading leaves in it (R286). -/
theorem knobReading_store (c : Tables) (p : Slot) (b : Byte) (s : State) :
    (knobReading c p b s).store.override = s.store.override ∧
      ∀ q, (knobReading c p b s).rawReading q = (if q = p then b else s.rawReading q) ∧
        (knobReading c p b s).source q = (if q = p then .knob else s.source q) ∧
        (knobReading c p b s).value q = (if q = p ∧ p ≠ dest c s then b else s.value q) := by
  have hstore := applyUnlessDest_store c p b s ((s.setRawReading p b).setSource p .knob)
  refine ⟨(congrArg Store.override hstore).trans rfl, fun q => ⟨?_, ?_, applyUnlessDest_value _ _ _ _ _ _⟩⟩
  · exact (congrArg (fun m : Store => m.rawReading[q]) hstore).trans (rawReading_setRawReading s p q b)
  · exact (congrArg (fun m : Store => m.source[q]) hstore).trans (source_setSource (s.setRawReading p b) p q .knob)

/-- Settles O54: the two injections name their slot by the controller or as PITCH_SHIFT; the knob by its operand. -/
theorem injectedValuesAreRecordedAndAppliedUnlessLfoOwned :
    Obligations.InjectedValuesAreRecordedAndAppliedUnlessLfoOwned := by
  intro a b s
  refine ⟨fun i p hip => ?_, fun p hp => ?_⟩
  · have hexec : exec i s = .next (inject Config.tables p b s) := by
      rcases hip with ⟨rfl, hp⟩ | ⟨rfl, hp⟩
      · rw [Fin.ext (hp.trans (controllerSlot_val a).symm)]
        rfl
      · rw [show p = SlotNo.pitchShift from Fin.ext hp]
        rfl
    exact ⟨_, hexec, inject_frame _ _ _ _, inject_store _ _ _ _⟩
  · obtain rfl : p = slotOperand a := Fin.ext (hp.trans (slotOperand_val a).symm)
    exact ⟨_, rfl, knobReading_frame _ _ _ _, knobReading_store _ _ _ _⟩

/-! ## Reset -/

/-- Settles O55: every cell of the store is its slot's reset value; the rest by evaluation. -/
theorem resetReachesTheResetState : Obligations.ResetReachesTheResetState := by
  intro s
  refine ⟨resetEngine Config.tables s, rfl, rfl, rfl,
    fun p => ⟨slotCells_get _ p, slotCells_get _ p, slotCells_get _ p, slotCells_get _ p⟩, ?_⟩
  exact ⟨rfl, rfl, rfl, rfl, rfl, rfl, rfl, rfl, rfl, rfl, rfl, rfl, rfl, rfl, rfl, rfl, rfl, rfl, rfl, rfl, rfl, rfl⟩

/-- The codes after reset (R60). -/
theorem CodesSafe.reset : CodesSafe State.reset where
  noLoop p := by
    have hsource : State.reset.source p = .knob := slotCells_get (fun _ => Source.knob) p
    rw [hsource]
    decide
  noise1 := by decide
  noise2 := by decide
  noiseLfo := by decide
  lastF1 := by decide
  lastF2 := by decide
  lastQ := by decide

/-- Settles O57: the four invariants of the reset state, each by evaluation of its registers. -/
theorem resetMeetsTheInvariants : Obligations.ResetMeetsTheInvariants :=
  ⟨AmpSafe.reset, FilterSafe.reset, GlideSafe.reset, GlideSafe.reset, CodesSafe.reset⟩

/-! ## The codes stay legal -/

/-- A byte written to a last-written register is below 0x100 (R42). -/
theorem setWidth_nine_le (v : Byte) : (v.setWidth 9).toNat ≤ 256 := by
  have hv := v.isLt
  rw [BitVec.toNat_setWidth]
  omega

/-- The sequencer writes bytes to the last-written registers, and to nothing else the codes speak of. -/
theorem CodesSafe.busStep (c : Tables) {s : State} (h : CodesSafe s) : CodesSafe (busStep c s) := by
  cases hstate : s.bus.state with
  | f1 =>
    rw [busStep_f1 c hstate]
    split_ifs
    · exact { h with lastF1 := setWidth_nine_le _ }
    · exact { h with }
  | f2 =>
    rw [busStep_f2 c hstate]
    split_ifs
    · exact { h with lastF2 := setWidth_nine_le _ }
    · exact { h with }
  | res =>
    rw [busStep_res c hstate]
    split_ifs
    · exact { h with lastQ := setWidth_nine_le _ }
    · exact { h with }
  | wait =>
    rw [busStep_wait c hstate]
    exact { h with }

/-- The LFO job writes effective values and the LFO's own record, by a waveform or not at all. -/
theorem CodesSafe.lfoJob (c : Tables) {s : State} (h : CodesSafe s) : CodesSafe (lfoJob c s) := by
  have hnoise : (Machine.lfoJob c s).genLfo.lfsr ≠ 0 := by
    rw [lfoJob_eq]
    by_cases hamount : ((lfoReady c s).value SlotNo.lfoAmount).toNat ≤ 1
    · rw [lfoApply_bypass c _ hamount, State.setValue_genLfo, lfoReady_genLfo]
      exact h.noiseLfo
    · rw [lfoApply_modulated c _ hamount, State.setValue_genLfo, (evalWave_lfo _ _ _).1, lfoReady_genLfo]
      exact wave_lfsr_ne_zero c _ _ _ _ h.noiseLfo
  rw [lfoJob_frame]
  exact { h with noiseLfo := hnoise }

/-- AUDIO_TICK writes the oscillators' records, by a waveform or not at all. -/
theorem CodesSafe.audioTick (c : Tables) {s : State} (h : CodesSafe s) : CodesSafe (audioTick c s) := by
  cases hon : s.noteOn with
  | true =>
    rw [audioTick_sounding_eq c hon]
    exact { h with
      noise1 := wave_lfsr_ne_zero c _ _ _ _ h.noise1
      noise2 := wave_lfsr_ne_zero c _ _ _ _ h.noise2 }
  | false =>
    rw [audioTick_silent c hon]
    exact { h with }

/-- An injected value tags its slot External. -/
theorem CodesSafe.inject (c : Tables) (p : Slot) (b : Byte) {s : State} (h : CodesSafe s) : CodesSafe (inject c p b s) := by
  have htag (q : Slot) : (Machine.inject c p b s).source q ≠ .loop := by
    rw [((inject_store c p b s).2 q).2.1]
    split_ifs
    · decide
    · exact h.noLoop q
  rw [inject_frame]
  exact { h with noLoop := htag }

/-- A knob reading tags its slot Knob. -/
theorem CodesSafe.knobReading (c : Tables) (p : Slot) (b : Byte) {s : State} (h : CodesSafe s) :
    CodesSafe (knobReading c p b s) := by
  have htag (q : Slot) : (Machine.knobReading c p b s).source q ≠ .loop := by
    rw [((knobReading_store c p b s).2 q).2.1]
    split_ifs
    · decide
    · exact h.noLoop q
  rw [knobReading_frame]
  exact { h with noLoop := htag }

/-- Every part of every event operation keeps the codes legal. -/
theorem codesSafe_kept : KeptByOperations CodesSafe where
  begins _ _ h := { h with }
  audioTick _ h := h.audioTick Config.tables
  slowTick _ h := { h with }
  clearSlowPending _ h := { h with }
  amplitudeStep s h := by rw [amplitudeStep_frame]; exact { h with }
  filterJob s h := by
    rw [filterJob_eq]
    apply CodesSafe.busStep
    rw [fltCutoffWrite_envelope_frame]
    exact { h with }
  pitchJob s h := by rw [pitchJob_frame]; exact { h with }
  lfoJob _ h := h.lfoJob Config.tables
  advanceRoundRobin _ h := { h with }
  noteOn _ _ _ h := { h with }
  noteOff a s h := by
    unfold noteOff
    split_ifs
    · exact { h with }
    · exact h
  inject p b _ h := h.inject Config.tables p b
  knobReading p b _ h := h.knobReading Config.tables p b
  reset _ _ := { CodesSafe.reset with }
  busReady _ _ h := { h with }

/-- Settles O58: every step keeps what the parts of the operations keep. -/
theorem everyStepKeepsTheCodesLegal : Obligations.EveryStepKeepsTheCodesLegal :=
  fun _ _ h hstep => codesSafe_kept.step h hstep

end Sys2Proof.Machine
end

section
/-! PROOF. Audio ticks do not influence the main loop (spec/40_scheduler.md R140, spec/20_memory.md R81): AUDIO_TICK leaves the main
loop's view, and every operation's effect on the view is a function of the view. -/

namespace Sys2Proof.Machine

open Sys2Proof.Config (Tables)

/-! ## Acting on the view -/

/-- An operation that acts on the view: what it leaves of the view depends on the view alone. -/
def ActsOnView (f : State → State) : Prop := ∀ s t, mainView s = mainView t → mainView (f s) = mainView (f t)

/-- An operation that passes through the view: it neither reads nor writes what the view leaves out. -/
def PassesView (f : State → State) : Prop := ∀ s, mainView (f s) = f (mainView s)

/-- An operation whose effect on the view can be computed from the view acts on it. -/
theorem ActsOnView.of_factor {f : State → State} (h : ∀ s, mainView (f s) = mainView (f (mainView s))) : ActsOnView f := by
  intro s t hst
  rw [h s, h t, hst]

theorem ActsOnView.comp {f g : State → State} (hf : ActsOnView f) (hg : ActsOnView g) : ActsOnView fun s => f (g s) :=
  fun s t hst => hf _ _ (hg s t hst)

theorem PassesView.actsOnView {f : State → State} (h : PassesView f) : ActsOnView f := by
  intro s t hst
  rw [h s, h t, hst]

theorem PassesView.comp {f g : State → State} (hf : PassesView f) (hg : PassesView g) : PassesView fun s => f (g s) := by
  intro s
  rw [hf, hg]

/-- A branch on the view between two operations that pass through it. -/
theorem mainView_ite {p : Prop} [Decidable p] (s t : State) :
    mainView (if p then s else t) = if p then mainView s else mainView t :=
  apply_ite mainView p s t

/-! ## Amplitude -/

theorem ampSyncTake_passes : PassesView ampSyncTake := fun _ => mainView_ite _ _

theorem ampForceRelease_passes : PassesView ampForceRelease := fun _ => mainView_ite _ _

theorem ampAttackStep_passes (c : Tables) : PassesView (ampAttackStep c) := fun _ => mainView_ite _ _

theorem ampDecayStep_passes (c : Tables) : PassesView (ampDecayStep c) := fun _ => mainView_ite _ _

theorem ampReleaseStep_passes (c : Tables) : PassesView (ampReleaseStep c) := fun _ => mainView_ite _ _

theorem ampAdvance_passes (c : Tables) : PassesView (ampAdvance c) := by
  intro s
  by_cases hs : s.amp.phase = .sustain
  · rw [ampAdvance_sustain c hs, ampAdvance_sustain c (s := mainView s) hs]
  by_cases ht : s.amp.timer = 0
  · cases hp : s.amp.phase with
    | attack => rw [ampAdvance_attack c hp ht, ampAdvance_attack c (s := mainView s) hp ht, ampAttackStep_passes]
    | decay => rw [ampAdvance_decay c hp ht, ampAdvance_decay c (s := mainView s) hp ht, ampDecayStep_passes]
    | sustain => exact absurd hp hs
    | release => rw [ampAdvance_release c hp ht, ampAdvance_release c (s := mainView s) hp ht, ampReleaseStep_passes]
  · rw [ampAdvance_timer c hs ht, ampAdvance_timer c (s := mainView s) hs ht]
    rfl

theorem ampStage_passes (c : Tables) : PassesView (ampStage c) := by
  intro s
  rw [ampStage, mainView_ite, ampAdvance_passes, ampForceRelease_passes]
  rfl

theorem amplitudeStep_passes (c : Tables) : PassesView (amplitudeStep c) :=
  PassesView.comp (f := vcaWrite) (fun _ => rfl) ((ampStage_passes c).comp ampSyncTake_passes)

/-! ## Filter -/

theorem fltSyncTake_passes : PassesView fltSyncTake := fun _ => mainView_ite _ _

theorem fltForceRelease_passes : PassesView fltForceRelease := fun _ => mainView_ite _ _

/-- The envelope's step, by its place in the stage and the stage it ends. -/
theorem fltStepOnce_passes : PassesView fltStepOnce := by
  intro s
  have hstep := s.flt.step.isLt
  by_cases hs : s.flt.step.toNat < 127
  · rw [fltStepOnce_within hs, fltStepOnce_within (s := mainView s) hs]
    rfl
  · have hlast : s.flt.step.toNat = 127 := by omega
    cases hp : s.flt.phase with
    | attack => rw [fltStepOnce_attackEnd hlast hp, fltStepOnce_attackEnd (s := mainView s) hlast hp]; rfl
    | decay => rw [fltStepOnce_decayEnd hlast hp, fltStepOnce_decayEnd (s := mainView s) hlast hp]; rfl
    | sustain =>
      rw [fltStepOnce_sustainEnd hlast hp, fltStepOnce_sustainEnd (s := mainView s) hlast hp]; rfl
    | release => rw [fltStepOnce_releaseEnd hlast hp, fltStepOnce_releaseEnd (s := mainView s) hlast hp]; rfl

theorem fltAdvance_passes (c : Tables) : PassesView (fltAdvance c) := by
  intro s
  by_cases hhold : s.flt.active = false ∨ s.flt.phase = .sustain
  · rw [fltAdvance_hold c hhold, fltAdvance_hold c (s := mainView s) hhold]
  obtain ⟨ha, hp⟩ : s.flt.active = true ∧ s.flt.phase ≠ .sustain := by simpa [not_or] using hhold
  by_cases ht : s.flt.timer = 0
  · obtain ⟨p, hslot⟩ := exists_rateSlot hp
    rw [fltAdvance_expired c ha ht hslot, fltAdvance_expired c (s := mainView s) ha ht hslot, fltStepOnce_passes]
    rfl
  · rw [fltAdvance_timer c ha hp ht, fltAdvance_timer c (s := mainView s) ha hp ht]
    rfl

theorem busStep_passes (c : Tables) : PassesView (busStep c) := by
  intro s
  cases h : s.bus.state with
  | f1 => rw [busStep_f1 c h, busStep_f1 c (s := mainView s) h]; exact mainView_ite _ _
  | f2 => rw [busStep_f2 c h, busStep_f2 c (s := mainView s) h]; exact mainView_ite _ _
  | res => rw [busStep_res c h, busStep_res c (s := mainView s) h]; exact mainView_ite _ _
  | wait => rw [busStep_wait c h, busStep_wait c (s := mainView s) h]; rfl

theorem filterJob_passes (c : Tables) : PassesView (filterJob c) :=
  (busStep_passes c).comp (PassesView.comp (f := fltCutoffWrite) (fun _ => rfl)
    ((fltAdvance_passes c).comp (fltForceRelease_passes.comp fltSyncTake_passes)))

/-! ## Pitch -/

/-- The glide of an oscillator neither reads nor writes its phase. -/
theorem glideOsc_phase (c : Tables) (ps : Note) (s : State) (o : OscRegs) (ph : Word16) :
    glideOsc c ps s { o with phase := ph } = { glideOsc c ps s o with phase := ph } := by
  have hstep (o : OscRegs) : glideStepOsc { o with phase := ph } = { glideStepOsc o with phase := ph } := by
    unfold glideStepOsc
    dsimp only
    split_ifs <;> rfl
  unfold glideOsc
  split_ifs
  · exact hstep (retargetOsc c (pitchShift ps) (stepLog2 s) o)
  · exact hstep o

theorem glide_passes (c : Tables) (ps : Note) : PassesView (glide c ps) := by
  intro s
  have h1 : glideOsc c ps (mainView s) (mainView s).osc1 = { glideOsc c ps s s.osc1 with phase := 0 } :=
    glideOsc_phase c ps s s.osc1 0
  have h2 : glideOsc c ps (mainView s) (mainView s).osc2 = { glideOsc c ps s s.osc2 with phase := 0 } :=
    glideOsc_phase c ps s s.osc2 0
  rw [glide_eq, glide_eq, h1, h2]
  rfl

theorem pitchJob_passes (c : Tables) : PassesView (pitchJob c) := by
  intro s
  cases hmode : glideRequired c s (pitchField s) with
  | false =>
    rw [pitchJob_bypass c hmode, pitchJob_bypass c (s := mainView s) hmode]
    rfl
  | true =>
    rw [pitchJob_glide c hmode, pitchJob_glide c (s := mainView s) hmode]
    exact congrArg (pitchBookkeeping (pitchField s)) (glide_passes c (pitchField s) (detune s))

/-! ## LFO -/

theorem lfoPhaseStep_passes (c : Tables) : PassesView (lfoPhaseStep c) := fun _ => mainView_ite _ _

theorem lfoHandBack_passes (d : Slot) : PassesView (lfoHandBack d) := fun _ => mainView_ite _ _

theorem lfoApply_passes (c : Tables) (d : Slot) : PassesView (lfoApply c d) := fun _ => mainView_ite _ _

theorem lfoJob_passes (c : Tables) : PassesView (lfoJob c) := by
  intro s
  rw [lfoJob_eq, lfoReady, lfoApply_passes, lfoHandBack_passes, lfoPhaseStep_passes, lfoJob_eq]
  rfl

/-! ## Operations -/

theorem runJob_passes (c : Tables) (j : Job) : PassesView (runJob c j) := by
  cases j with
  | filter => exact filterJob_passes c
  | knob => exact fun _ => rfl
  | pitch => exact pitchJob_passes c
  | lfo => exact lfoJob_passes c

theorem mainStep_passes (c : Tables) : PassesView (mainStep c) := by
  intro s
  cases hp : s.slowPending with
  | false => rw [mainStep_idle c hp, mainStep_idle c (s := mainView s) hp]
  | true =>
    have hparts := (runJob_passes c s.rrState).comp (amplitudeStep_passes c) (clearSlowPending s)
    rw [mainStep_pending c hp, mainStep_pending c (s := mainView s) hp]
    exact congrArg advanceRoundRobin hparts

/-- AUDIO_TICK leaves the view. -/
theorem mainView_audioTick (c : Tables) (s : State) : mainView (audioTick c s) = mainView s := by
  rw [audioTick_frame]
  rfl

/-- An oscillator's evaluation leaves the view; the LFO's passes through it. -/
theorem evalWave_actsOnView (c : Tables) (w : WaveId) (g : Gen) : ActsOnView (evalWave c w g) := by
  cases g with
  | osc1 => exact fun _ _ hst => hst
  | osc2 => exact fun _ _ hst => hst
  | lfo => exact PassesView.actsOnView fun _ => rfl

/-- Every operation acts on the view: it is some `f` that does. -/
theorem exec_actsOnView (i : Instr) : ∃ f, ActsOnView f ∧ ∀ s, exec i s = .next (f s) := by
  induction i using Instr.casesByKind with
  | wave g w => exact ⟨_, evalWave_actsOnView Config.tables w g, exec_waveInstr w g⟩
  | job j => exact ⟨_, (runJob_passes Config.tables j).actsOnView, exec_jobInstr j⟩
  | event i hi =>
    cases i with
    | nop => exact ⟨id, fun _ _ hst => hst, fun _ => rfl⟩
    | audioTick =>
      refine ⟨audioTick Config.tables, fun s t hst => ?_, fun _ => rfl⟩
      rw [mainView_audioTick, mainView_audioTick, hst]
    | slowTick => exact ⟨setSlowPending, PassesView.actsOnView fun _ => rfl, fun _ => rfl⟩
    | mainStep => exact ⟨_, (mainStep_passes Config.tables).actsOnView, fun _ => rfl⟩
    | noteOn a b => exact ⟨noteOn a b, .of_factor fun _ => rfl, fun _ => rfl⟩
    | noteOff a => exact ⟨noteOff a, PassesView.actsOnView fun _ => mainView_ite _ _, fun _ => rfl⟩
    | controlChange a b =>
      exact ⟨inject Config.tables (controllerSlot a) b, PassesView.actsOnView fun _ => mainView_ite _ _, fun _ => rfl⟩
    | pitchBend b =>
      exact ⟨inject Config.tables SlotNo.pitchShift b, PassesView.actsOnView fun _ => mainView_ite _ _, fun _ => rfl⟩
    | knob a b =>
      exact ⟨knobReading Config.tables (slotOperand a) b, PassesView.actsOnView fun _ => mainView_ite _ _, fun _ => rfl⟩
    | reset => exact ⟨resetEngine Config.tables, .of_factor fun _ => rfl, fun _ => rfl⟩
    | busReady level => exact ⟨setBusReady level, PassesView.actsOnView fun _ => rfl, fun _ => rfl⟩
    | _ => cases hi

/-- Settles O59: AUDIO_TICK writes only what the view leaves out, and every operation acts on the view. -/
theorem audioTicksDoNotInfluenceTheMainLoop : Obligations.AudioTicksDoNotInfluenceTheMainLoop := by
  refine ⟨?_, fun i s t u v hst hu hv => ?_⟩
  · rintro s _ ⟨⟩
    exact mainView_audioTick Config.tables s
  · obtain ⟨f, hf, hexec⟩ := exec_actsOnView i
    rw [hexec] at hu hv
    cases hu
    cases hv
    exact hf s t hst

end Sys2Proof.Machine
end
